-- ==== Sys2Proof/Word.lean ====
section
/-! DEFINITION. The words of the block: bytes, 32-bit words and 64-bit host times (spec/00_scope.md R6, R7, R9). -/

namespace Sys2Proof

/-- One byte of a wire frame or of a payload (R54). -/
abbrev Byte := BitVec 8

/-- A 32-bit word: a command word, an echo id, a CAN id word or a raw counter value in microseconds (R6). -/
abbrev Word := BitVec 32

/-- A host time: 64-bit two's complement microseconds (R7). -/
abbrev HostTime := BitVec 64

end Sys2Proof
end

