-- ==== Sys2Proof/Syntax.lean ====
section
/-! DEFINITION. The eleven commands of spec/opcode_table.json, the operands a command carries (spec/30_encoding.md R95) and what the host can do to the block. -/

namespace Sys2Proof

/-- The channel mode of DECODE, ENCODE and INGEST: command word bits 4 and 5 (spec/00_scope.md R12, R93). -/
structure ChannelMode where
  /-- CAN-FD is enabled for the channel (word bit 4). -/
  fd : Bool
  /-- Hardware timestamping is enabled for the channel (word bit 5). -/
  ts : Bool
  deriving DecidableEq, Repr

/-- The commands of the opcode table (R92), one constructor a row, with the fields of the command word they read. -/
inductive Instr where
  | decode (mode : ChannelMode)
  | encode (mode : ChannelMode)
  | ingest (mode : ChannelMode)
  | tsObserve
  | tsResync
  | lsmConsume
  | lsmStop
  | lsmSleep
  | channelStart
  | stateRead
  | regRead (idx : BitVec 8)
  deriving DecidableEq, Repr

/-- Why a command word, or a register index, is an illegal command (spec/60_exceptions.md R254). -/
inductive IllegalCause where
  /-- op 0x0 or 0xC-0xF. -/
  | badOpcode
  /-- a reserved bit of the word is set for its opcode. -/
  | reservedBits
  /-- REG_READ of an unassigned index. -/
  | badIndex
  deriving DecidableEq, Repr

/-- A CAN frame (spec/00_scope.md R11). `dataLength` is the length of `payload` ("exactly `dataLength` bytes"), so the
two cannot disagree (log entry 3); it is a 7-bit number, 0 to 127 (spec/30_encoding.md R95), so a frame carries the proof that
its payload is no longer, and a longer one can neither stand on an operand port nor be built. -/
structure CanFrame where
  id : BitVec 32
  isExtended : Bool
  isRemote : Bool
  isError : Bool
  isFD : Bool
  bitrateSwitch : Bool
  errorStateIndicator : Bool
  overflowFlag : Bool
  channel : Byte
  payload : List Byte
  /-- `dataLength` is a 7-bit number (R95). -/
  payloadFits : payload.length < 2 ^ 7
  timestamp : Option HostTime
  deriving DecidableEq, Repr

/-- The operand ports (R95). A command reads the ports it names and no other. -/
structure Operands where
  /-- DECODE, INGEST: the input buffer, one wire frame (R51). -/
  buf : List Byte
  /-- ENCODE: the caller's echo id. -/
  echoId : Word
  /-- ENCODE, LSM_CONSUME: the frame. -/
  frame : CanFrame
  /-- TS_OBSERVE, TS_RESYNC: the raw counter sample. -/
  raw : Word
  /-- TS_RESYNC: the host time of the sample's instant. -/
  hostNow : HostTime
  deriving DecidableEq, Repr

/-- The ports the host takes entries from (spec/10_state.md R34, spec/60_exceptions.md R263). -/
inductive OutPort where
  | events
  | dataOut
  | echoOut
  | frameOut
  deriving DecidableEq, Repr

/-- What the host can do to an instance, between commands (R20, R34, R263, R280; log entry 1). -/
inductive HostInput where
  /-- issue a command: its word and its operands (R91). -/
  | command (word : Word) (operands : Operands)
  /-- take the oldest entry of a port (log entry 7). -/
  | take (port : OutPort)
  /-- power-on reset (R280; log entry 9). -/
  | powerOn
  deriving DecidableEq, Repr

end Sys2Proof
end

