-- ==== Sys2Proof/Decode.lean ====
section
/-! DEFINITION. Command words (spec/30_encoding.md R91 to R96): the decoder, total on any word and rejecting by cause, the encoder, and the opcode table's words. -/

namespace Sys2Proof

/-- Bits 3:0 of a command word: the opcode (R91). -/
def opField (w : Word) : BitVec 4 := w.extractLsb' 0 4

/-- Bits 5 and 4 of a command word: the channel mode (R93). -/
def modeField (w : Word) : ChannelMode := { fd := w.getLsbD 4, ts := w.getLsbD 5 }

/-- Bits 15:8 of a command word: the register index (R94). -/
def idxField (w : Word) : BitVec 8 := w.extractLsb' 8 8

/-- Bits 7:6 and 31:16 are reserved in every command word (R91). -/
def reservedClear (w : Word) : Bool := w.extractLsb' 6 2 == 0#2 && w.extractLsb' 16 16 == 0#16

/-- Bits 4 and 5, which only DECODE, ENCODE and INGEST may set (R96). -/
def modeClear (w : Word) : Bool := !w.getLsbD 4 && !w.getLsbD 5

/-- The index bits, which only REG_READ may set (R94, R96). -/
def idxClear (w : Word) : Bool := idxField w == 0#8

/-- Accept an instruction when no bit reserved for its opcode is set (R254 cause 2). -/
def acceptWhen (ok : Bool) (i : Instr) : Except IllegalCause Instr :=
  if ok then .ok i else .error .reservedBits

/-- The instruction a command word selects, or the cause for which the word is illegal: BAD_OPCODE is decided before
RESERVED_BITS (R92, R96, R254). -/
def decode (w : Word) : Except IllegalCause Instr :=
  match (opField w).toNat with
  | 0x1 => acceptWhen (reservedClear w && idxClear w) (.decode (modeField w))
  | 0x2 => acceptWhen (reservedClear w && idxClear w) (.encode (modeField w))
  | 0x3 => acceptWhen (reservedClear w && idxClear w) (.ingest (modeField w))
  | 0x4 => acceptWhen (reservedClear w && idxClear w && modeClear w) .tsObserve
  | 0x5 => acceptWhen (reservedClear w && idxClear w && modeClear w) .tsResync
  | 0x6 => acceptWhen (reservedClear w && idxClear w && modeClear w) .lsmConsume
  | 0x7 => acceptWhen (reservedClear w && idxClear w && modeClear w) .lsmStop
  | 0x8 => acceptWhen (reservedClear w && idxClear w && modeClear w) .lsmSleep
  | 0x9 => acceptWhen (reservedClear w && idxClear w && modeClear w) .channelStart
  | 0xA => acceptWhen (reservedClear w && idxClear w && modeClear w) .stateRead
  | 0xB => acceptWhen (reservedClear w && modeClear w) (.regRead (idxField w))
  | _ => .error .badOpcode

/-- A command word from its fields, every reserved bit 0 (R91). -/
def commandWord (op : BitVec 4) (mode : ChannelMode) (idx : BitVec 8) : Word :=
  0#16 ++ idx ++ 0#2 ++ BitVec.ofBool mode.ts ++ BitVec.ofBool mode.fd ++ op

/-- The mode bits of a command that takes no mode. -/
def noMode : ChannelMode := { fd := false, ts := false }

/-- The command word of an instruction (R92). -/
def encode : Instr → Word
  | .decode mode => commandWord 0x1 mode 0
  | .encode mode => commandWord 0x2 mode 0
  | .ingest mode => commandWord 0x3 mode 0
  | .tsObserve => commandWord 0x4 noMode 0
  | .tsResync => commandWord 0x5 noMode 0
  | .lsmConsume => commandWord 0x6 noMode 0
  | .lsmStop => commandWord 0x7 noMode 0
  | .lsmSleep => commandWord 0x8 noMode 0
  | .channelStart => commandWord 0x9 noMode 0
  | .stateRead => commandWord 0xA noMode 0
  | .regRead idx => commandWord 0xB noMode idx

/-- The command word of `nbits` bits as spec/opcode_table.json numbers them; the bits above are 0. The command port is one
32-bit word, so no byte order enters. -/
def tableWord (nbits w : Nat) : Word := BitVec.ofNat 32 (w % 2 ^ nbits)

/-- The instruction the decoder reads from the bits of a row of the opcode table. -/
def decodeTableWord (nbits w : Nat) : Option Instr :=
  match decode (tableWord nbits w) with
  | .ok i => some i
  | .error _ => none

end Sys2Proof
end

