-- ==== Sys2Proof/Config.lean ====
section
/-! DEFINITION. The named parameters of the block (spec/00_scope.md R8): those with a default as plain data, those the spec leaves open as constants without a body. -/

namespace Sys2Proof

/-- The parameters of R8 that have a default. A machine carries one such record, which no step writes. -/
structure Params where
  /-- `P_TIE_STALE`: a raw sample exactly 2^31 ahead of TS_LAST_RAW is stale (true) or an advance (false). -/
  tieStale : Bool
  /-- `P_RESYNC_MAX_DRIFT_US`: when set, a resync whose conversion differs from the host sample by more hard-resets. -/
  resyncMaxDriftUs : Option (BitVec 64)
  /-- `P_COUNTERS_REQUIRE_CNT`: counters load only from error frames with the CNT class bit. -/
  countersRequireCnt : Bool
  deriving DecidableEq, Repr

/-- The spec's defaults (R8). -/
def Params.default : Params :=
  { tieStale := true, resyncMaxDriftUs := none, countersRequireCnt := true }

/-- `P_EVENT_DROP` (R8, R258), a free value: whether the event of the n-th draw is lost. It has no body, so every
statement holds for every outcome of every draw (log entry 4). -/
opaque Config.eventDrop : Nat → Bool

/-- How far `P_MAX_BUF_LEN` lies above its least value 80 (R8, R52, D41: OPEN), a free value (log entry 5). -/
opaque Config.maxBufBeyond : Nat

/-- `P_MAX_BUF_LEN`: the longest input buffer of DECODE and INGEST, at least 80 (R52). -/
def Config.maxBufLen : Nat := Config.maxBufBeyond + 80

end Sys2Proof
end

