-- ==== Sys2Proof/Machine/State.lean ====
section
/-! DEFINITION. The state of one block instance: its registers (spec/10_state.md R21), its ports (R34) and the model's own fields (INVENTORY.md), with the state right after power-on reset (R36, R280). -/

namespace Sys2Proof.Machine

/-- The six values of LSM_STATE (R22); the patterns 6 and 7, which no command writes, have no constructor (log entry 11). -/
inductive LinkState where
  | errorActive
  | errorWarning
  | errorPassive
  | busOff
  | stopped
  | sleeping
  deriving DecidableEq, Repr

/-- Why DECODE or INGEST rejects a buffer (spec/60_exceptions.md R252). -/
inductive MalformedCause where
  | shortHeader
  | badDlc
  | fdNotEnabled
  | shortPayload
  | shortTimestamp
  | badId
  deriving DecidableEq, Repr

/-- Why ENCODE rejects a frame (R253). -/
inductive InvalidCause where
  | badLength
  | fdNotEnabled
  deriving DecidableEq, Repr

/-- The result and cause a command returns (R251). -/
inductive CommandResult where
  | ok
  | malformedFrame (cause : MalformedCause)
  | invalidFrame (cause : InvalidCause)
  | unrecognizedErrorFrame
  | illegalCommand (cause : IllegalCause)
  deriving DecidableEq, Repr

/-- The status of TS_RESYNC (R158, R251). -/
inductive ResyncStatus where
  | ok
  | anchored
  | hardReset
  deriving DecidableEq, Repr

/-- An entry of the event port (R256). -/
inductive Event where
  | malformedFrame (cause : MalformedCause)
  | rxOverflow
  | unrecognizedErrorFrame
  deriving DecidableEq, Repr

/-- What a successful DECODE yields (R110). -/
structure Decoded where
  echoId : Word
  frame : CanFrame
  rawTs : Option Word
  deriving DecidableEq, Repr

/-- An entry of the echo output: the echo id for the allocator and its frame (R220, R222). -/
structure EchoEntry where
  echoId : Word
  frame : CanFrame
  deriving DecidableEq, Repr

/-- The outputs of INGEST by kind (R95, R220). -/
inductive IngestOutput where
  | discarded
  | data (frame : CanFrame)
  | echo (entry : EchoEntry)
  | error
  deriving DecidableEq, Repr

/-- The outputs of a command (R95). -/
inductive Outputs where
  | none
  | decoded (d : Decoded)
  | encoded (bytes : List Byte)
  | ingested (o : IngestOutput)
  | observed (hostTime : Option HostTime)
  | resynced (status : ResyncStatus)
  | snapshot (state : BitVec 3) (tx rx : Byte)
  | value (v : Word)
  deriving DecidableEq, Repr

/-- The result record of a command (R34, R251). -/
structure ResultRecord where
  result : CommandResult
  outputs : Outputs
  deriving DecidableEq, Repr

/-- The registers of the block (R21). -/
structure Registers where
  /-- LSM_STATE -/
  lsmState : LinkState
  /-- LSM_TXERR -/
  lsmTxErr : BitVec 8
  /-- LSM_RXERR -/
  lsmRxErr : BitVec 8
  /-- TS_VALID -/
  tsValid : Bool
  /-- TS_LAST_RAW -/
  tsLastRaw : BitVec 32
  /-- TS_ZERO_RAW -/
  tsZeroRaw : BitVec 32
  /-- TS_BASE_HOST -/
  tsBaseHost : BitVec 64
  /-- TS_WRAP -/
  tsWrap : BitVec 32
  deriving DecidableEq, Repr

/-- The registers after power-on reset and after CHANNEL_START (R36). -/
def Registers.reset : Registers :=
  { lsmState := .errorActive, lsmTxErr := 0, lsmRxErr := 0, tsValid := false, tsLastRaw := 0, tsZeroRaw := 0,
    tsBaseHost := 0, tsWrap := 0 }

/-- One block instance. -/
structure State where
  /-- the registers (R21) -/
  regs : Registers
  /-- the operands on the command port, those of the command last accepted (R34, R95) -/
  operands : Operands
  /-- the result record of the last command, empty before the first (R34; DESIGN CHOICE, log entry 12) -/
  result : Option ResultRecord
  /-- the event port: what was emitted, not lost and not yet taken, oldest first (R256) -/
  events : List Event
  /-- the data output: frames delivered to the receive stream and not yet taken, oldest first (R34) -/
  dataOut : List CanFrame
  /-- the echo output: echo entries not yet taken, oldest first (R34) -/
  echoOut : List EchoEntry
  /-- the frame output of DECODE: frames not yet taken, oldest first (R34) -/
  frameOut : List CanFrame
  /-- the model's own: the parameters of the machine, which no step writes (R8; log entry 6) -/
  params : Params
  /-- the model's own: how many events were drawn so far (R258; log entry 4) -/
  eventDraws : Nat
  /-- the model's own: what the host does next, in order (R58; log entry 1) -/
  inputs : List HostInput
  deriving DecidableEq, Repr

/-- The operand ports before the first command: empty and zero, which no command reads (DESIGN CHOICE, log entry 2). -/
def idleOperands : Operands :=
  { buf := [], echoId := 0,
    frame := { id := 0, isExtended := false, isRemote := false, isError := false, isFD := false, bitrateSwitch := false,
               errorStateIndicator := false, overflowFlag := false, channel := 0, payload := [],
               payloadFits := by decide, timestamp := none },
    raw := 0, hostNow := 0 }

/-- The machine after power-on reset: every register at its reset value and every port empty (R36, R280). -/
def State.reset : State :=
  { regs := Registers.reset, operands := idleOperands, result := none, events := [], dataOut := [], echoOut := [],
    frameOut := [], params := Params.default, eventDraws := 0, inputs := [] }

/-- The block has no trap and no command stops it ("Every error is a result returned by the command that met it, and the
next command runs normally", spec/60_exceptions.md R250), so there is no fault. -/
inductive Fault where
  deriving DecidableEq, Repr

/-- Why a step has no meaning. -/
inductive Refusal where
  /-- Raised by exec's arm of an instruction that has no meaning yet. Safe: nothing is claimed about it. -/
  | notModelled (mnemonic : String)
  /-- Raised by DECODE and INGEST when the input buffer is longer than `P_MAX_BUF_LEN`: "a longer buffer is outside the
  model and the command is refused rather than given a meaning" (spec/20_memory.md R52). Safe: nothing is claimed. -/
  | bufferTooLong
  deriving DecidableEq, Repr

end Sys2Proof.Machine
end

