-- ==== Sys2Proof/Machine/Operands.lean ====
section
/-! DEFINITION. The forms operands and outputs take: bytes and little-endian words of a buffer (spec/20_memory.md R53), the sizes of a wire frame (spec/30_encoding.md R70, R71), the DLC tables (R83 to R85), and the numbers of the codes of spec/60_exceptions.md and of LSM_STATE. -/

namespace Sys2Proof.Machine

/-! ### Bytes and words of a buffer -/

/-- `buf[i]` (R10). Every rule reads below `len(buf)`; past the end the value is 0 and no rule reads it. -/
def byteAt (buf : List Byte) (i : Nat) : Byte := buf.getD i 0

/-- `Rd32(buf, off)`: the little-endian word at an offset (R10, R53). -/
def rd32 (buf : List Byte) (off : Nat) : Word :=
  byteAt buf (off + 3) ++ byteAt buf (off + 2) ++ byteAt buf (off + 1) ++ byteAt buf off

/-- The four bytes `Wr32` writes for a word, at rising offsets (R10, R53). -/
def wr32 (v : Word) : List Byte :=
  [v.extractLsb' 0 8, v.extractLsb' 8 8, v.extractLsb' 16 8, v.extractLsb' 24 8]

/-! ### Sizes of a wire frame -/

/-- The bytes of the fixed header (R70). -/
def headerLength : Nat := 12

/-- `P`, the size of the payload field: it follows the channel mode (R13, R118). -/
def payloadFieldSize (mode : ChannelMode) : Nat := if mode.fd then 64 else 8

/-- The offset of the trailing timestamp, when there is one (R72, R82). -/
def timestampOffset (mode : ChannelMode) : Nat := headerLength + payloadFieldSize mode

/-- The full length of an inbound frame (R71). -/
def inboundLength (mode : ChannelMode) : Nat := timestampOffset mode + if mode.ts then 4 else 0

/-- The full length of an outbound frame, which never carries a timestamp (R71). -/
def outboundLength (mode : ChannelMode) : Nat := timestampOffset mode

/-- `f.dataLength`, a 7-bit number: the length of the payload (R11, R95; log entry 3). -/
def dataLength (f : CanFrame) : BitVec 7 := BitVec.ofNatLT f.payload.length f.payloadFits

/-! ### DLC tables -/

/-- The data length of a valid DLC code, `none` for a code out of the table (R83, R84). -/
def dlc2len (isFD : Bool) (code : Nat) : Option (BitVec 7) :=
  if code ≤ 8 then some (BitVec.ofNat 7 code)
  else if isFD then [12, 16, 20, 24, 32, 48, 64][code - 9]?
  else none

/-- `len2dlc`: the DLC code of a data length, `none` for a length without a code (R85). -/
def len2dlc (isFD : Bool) (n : BitVec 7) : Option Nat :=
  if n.toNat ≤ 8 then some n.toNat
  else if isFD then
    match n.toNat with
    | 12 => some 9
    | 16 => some 10
    | 20 => some 11
    | 24 => some 12
    | 32 => some 13
    | 48 => some 14
    | 64 => some 15
    | _ => none
  else none

/-! ### The numbers of states and codes -/

/-- The number of a link state, as STATE_READ and REG_READ show it (R22). -/
def linkStateCode : LinkState → BitVec 3
  | .errorActive => 0
  | .errorWarning => 1
  | .errorPassive => 2
  | .busOff => 3
  | .stopped => 4
  | .sleeping => 5

/-- The number of a MalformedFrame cause (R252). -/
def malformedCode : MalformedCause → Nat
  | .shortHeader => 1
  | .badDlc => 2
  | .fdNotEnabled => 3
  | .shortPayload => 4
  | .shortTimestamp => 5
  | .badId => 6

/-- The number of an InvalidFrame cause (R253). -/
def invalidCode : InvalidCause → Nat
  | .badLength => 1
  | .fdNotEnabled => 2

/-- The number of an IllegalCommand cause (R254). -/
def illegalCode : IllegalCause → Nat
  | .badOpcode => 1
  | .reservedBits => 2
  | .badIndex => 3

/-- The result code of a command (R251). -/
def resultCode : CommandResult → Nat
  | .ok => 0
  | .malformedFrame _ => 1
  | .invalidFrame _ => 2
  | .unrecognizedErrorFrame => 3
  | .illegalCommand _ => 4

/-- The cause code of a command (R251). -/
def causeCode : CommandResult → Nat
  | .ok => 0
  | .malformedFrame k => malformedCode k
  | .invalidFrame k => invalidCode k
  | .unrecognizedErrorFrame => 0
  | .illegalCommand k => illegalCode k

/-- The number of a TS_RESYNC status (R251). -/
def resyncStatusCode : ResyncStatus → Nat
  | .ok => 0
  | .anchored => 1
  | .hardReset => 2

/-- The number of an event (R256). -/
def eventCode : Event → Nat
  | .malformedFrame _ => 1
  | .rxOverflow => 2
  | .unrecognizedErrorFrame => 3

/-- The register an index of the read map names, zero-extended to 32 bits; `none` for an unassigned index (R32). -/
def registerAt (r : Registers) (idx : BitVec 8) : Option Word :=
  match idx.toNat with
  | 0x00 => some ((linkStateCode r.lsmState).setWidth 32)
  | 0x01 => some (r.lsmTxErr.setWidth 32)
  | 0x02 => some (r.lsmRxErr.setWidth 32)
  | 0x03 => some ((BitVec.ofBool r.tsValid).setWidth 32)
  | 0x04 => some r.tsLastRaw
  | 0x05 => some r.tsZeroRaw
  | 0x06 => some (r.tsBaseHost.extractLsb' 0 32)
  | 0x07 => some (r.tsBaseHost.extractLsb' 32 32)
  | 0x08 => some r.tsWrap
  | _ => none

end Sys2Proof.Machine
end

