-- ==== Sys2Proof/Machine/Flags.lean ====
section
/-! DEFINITION. Flag bits: the id word's flags (spec/30_encoding.md R74 to R76), the header's flags byte (R79), and the class, controller-status and counter evidence of an error frame (R87 to R90, spec/42_link_state.md R181 to R185). The block has no condition codes (R31). -/

namespace Sys2Proof.Machine

/-! ### The CAN id word -/

/-- The bits an id may use: 29 when extended, else 11 (R75). -/
def idMask (isExtended : Bool) : Word := if isExtended then 0x1FFFFFFF else 0x000007FF

/-- Put a flag at a bit of a word. -/
def flagAt (b : Bool) (bit : Nat) : Word := (BitVec.ofBool b).setWidth 32 <<< bit

/-- The id word ENCODE writes: three flags and the masked id (R75). -/
def packCanId (f : CanFrame) : Word :=
  flagAt f.isExtended 31 ||| flagAt f.isRemote 30 ||| flagAt f.isError 29 ||| (f.id &&& idMask f.isExtended)

/-- Bit 31 of an id word (R74). -/
def canIdExtended (cid : Word) : Bool := cid.getLsbD 31

/-- Bit 30 of an id word (R74). -/
def canIdRemote (cid : Word) : Bool := cid.getLsbD 30

/-- Bit 29 of an id word (R74). -/
def canIdError (cid : Word) : Bool := cid.getLsbD 29

/-- Bits 28:0 of an id word (R76). -/
def canIdNumber (cid : Word) : Word := cid &&& 0x1FFFFFFF

/-- A standard id word with any of bits 28:11 set is rejected (R76, R116). -/
def canIdTooWide (cid : Word) : Bool := !canIdExtended cid && cid &&& 0x1FFFF800 != 0

/-! ### The header's flags byte -/

/-- Bit 0 of the flags byte (R79). -/
def flagOverflow (fl : Byte) : Bool := fl.getLsbD 0

/-- Bit 1 of the flags byte, the per-frame FD flag (R79). -/
def flagFd (fl : Byte) : Bool := fl.getLsbD 1

/-- Bit 2 of the flags byte (R79). -/
def flagBrs (fl : Byte) : Bool := fl.getLsbD 2

/-- Bit 3 of the flags byte (R79). -/
def flagEsi (fl : Byte) : Bool := fl.getLsbD 3

/-- The flags byte ENCODE writes, bits 7:4 zero (R79, R80). -/
def packFlags (f : CanFrame) : Byte :=
  0#4 ++ BitVec.ofBool f.errorStateIndicator ++ BitVec.ofBool f.bitrateSwitch ++ BitVec.ofBool f.isFD
    ++ BitVec.ofBool f.overflowFlag

/-! ### Error frames -/

/-- The class bits of an error frame (R87). -/
def classBits (f : CanFrame) : Word := f.id &&& 0x1FFFFFFF

/-- CRTL: controller status stands in data[1] (R87). -/
def hasCrtl (f : CanFrame) : Bool := classBits f &&& 0x004 != 0

/-- BUSOFF (R87). -/
def hasBusOff (f : CanFrame) : Bool := classBits f &&& 0x040 != 0

/-- RESTARTED (R87). -/
def hasRestarted (f : CanFrame) : Bool := classBits f &&& 0x100 != 0

/-- CNT: counters stand in data[6] and data[7] (R87). -/
def hasCnt (f : CanFrame) : Bool := classBits f &&& 0x200 != 0

/-- A recognized error frame: the error flag, 8 payload bytes, some class bit and no undefined one (R182). -/
def recognized (f : CanFrame) : Bool :=
  f.isError && dataLength f == 8 && classBits f != 0 && classBits f &&& 0x1FFFFC00 == 0

/-- The three levels, in rising severity (R181). -/
inductive Level where
  | active
  | warning
  | passive
  deriving DecidableEq, Repr

/-- The order of the levels (R181). -/
def levelRank : Level → Nat
  | .active => 0
  | .warning => 1
  | .passive => 2

/-- The more severe of two levels (R181). -/
def worse (a b : Level) : Level := if levelRank a ≤ levelRank b then b else a

/-- The most severe level of the evidence, `none` when there is none (R181). -/
def maxLevel : List Level → Option Level
  | [] => none
  | l :: ls =>
    match maxLevel ls with
    | none => some l
    | some m => some (worse l m)

/-- The link state a level stands for (R181). -/
def levelState : Level → LinkState
  | .active => .errorActive
  | .warning => .errorWarning
  | .passive => .errorPassive

/-- The level the controller status byte shows (R184); its bit 7 and its overflow bits show none (R88). -/
def levelCrtl (b : Byte) : Option Level :=
  if b &&& 0x30 != 0 then some .passive
  else if b &&& 0x0C != 0 then some .warning
  else if b &&& 0x40 != 0 then some .active
  else none

/-- The level the counters show, by the strict thresholds 96 and 127 (R185). -/
def levelCnt (t r : BitVec 8) : Level :=
  if 127 < max t.toNat r.toNat then .passive
  else if 96 < max t.toNat r.toNat then .warning
  else .active

/-- Whether an error frame loads the counters (R183). -/
def loadsCounters (p : Params) (f : CanFrame) : Bool := hasCnt f || !p.countersRequireCnt

/-- The controller status byte of an error frame, data[1] (R88). -/
def controllerStatus (f : CanFrame) : Byte := byteAt f.payload 1

/-- The transmit counter byte of an error frame, data[6] (R89). -/
def txCounterByte (f : CanFrame) : Byte := byteAt f.payload 6

/-- The receive counter byte of an error frame, data[7] (R89). -/
def rxCounterByte (f : CanFrame) : Byte := byteAt f.payload 7

end Sys2Proof.Machine
end

