-- ==== Sys2Proof/WellFormed.lean ====
section
/-! DEFINITION. Which commands and operands the interface admits: the checks of spec/30_encoding.md R94, R95 and spec/20_memory.md R52 as decidable predicates. -/

namespace Sys2Proof

/-- The highest assigned register index of the read map (spec/10_state.md R32). -/
def lastRegisterIndex : Nat := 8

/-- A command is well formed when no operand of its word is illegal: a REG_READ index must be assigned (R32). The word of
an ill-formed command still decodes, and running it raises IllegalCommand(BAD_INDEX) (R230). -/
def Instr.wellFormed : Instr → Bool
  | .regRead idx => idx.toNat ≤ lastRegisterIndex
  | .decode _ | .encode _ | .ingest _ | .tsObserve | .tsResync | .lsmConsume | .lsmStop | .lsmSleep
  | .channelStart | .stateRead => true

/-- The frame operand port carries 0 to 127 payload bytes (R95: `dataLength` is a 7-bit number). -/
abbrev payloadFitsPort (bytes : List Byte) : Prop := bytes.length < 2 ^ 7

/-- Present bytes as the payload of a frame operand: only bytes that fit the port make a frame (R95). -/
def CanFrame.present (f : CanFrame) (bytes : List Byte) : Option CanFrame :=
  if fits : payloadFitsPort bytes then some { f with payload := bytes, payloadFits := fits } else none

/-- The input buffer port carries at most `P_MAX_BUF_LEN` bytes (R52). -/
abbrev Operands.bufferFits (o : Operands) : Prop := o.buf.length ≤ Config.maxBufLen

end Sys2Proof
end

