-- ==== Sys2Proof/Machine/Ops.lean ====
section
/-! DEFINITION. The operations the commands share: emitting an event, writing a port, ending a command with its result record (spec/60_exceptions.md R250 to R261), and what the host's own actions do to the ports. -/

namespace Sys2Proof.Machine

/-- Offer an event to the event port: it is appended or lost, as the free draw says, and the command goes on either way
(R258). -/
def State.emit (s : State) (e : Event) : State :=
  { s with
    events := if Config.eventDrop s.eventDraws then s.events else s.events ++ [e]
    eventDraws := s.eventDraws + 1 }

/-- Deliver a frame to the data output (R34, R220). -/
def State.deliver (s : State) (f : CanFrame) : State := { s with dataOut := s.dataOut ++ [f] }

/-- Put an entry on the echo output (R34, R220). -/
def State.echo (s : State) (e : EchoEntry) : State := { s with echoOut := s.echoOut ++ [e] }

/-- Put a frame on the frame output of DECODE (R34; log entry 13). -/
def State.putFrame (s : State) (f : CanFrame) : State := { s with frameOut := s.frameOut ++ [f] }

/-- End a command: its result record is written, and nothing else (R251). -/
def State.finish (s : State) (r : CommandResult) (o : Outputs) : State := { s with result := some { result := r, outputs := o } }

/-- TAKING AN EXCEPTION, as this block has it: there is no trap, and a failing command ends with its result and cause, with no
register written and no output (R10 `raise`, R250, R260). Nothing resumes, so there is no return from it (R261). -/
def State.raise (s : State) (r : CommandResult) : State := s.finish r .none

/-- The command port takes the operands of the command that is accepted (R34, R95). -/
def State.latch (s : State) (ops : Operands) : State := { s with operands := ops }

/-- The host takes the oldest entry of a port; taking from an empty port changes nothing (R263; log entry 7). -/
def State.takeFrom (s : State) : OutPort → State
  | .events => { s with events := s.events.drop 1 }
  | .dataOut => { s with dataOut := s.dataOut.drop 1 }
  | .echoOut => { s with echoOut := s.echoOut.drop 1 }
  | .frameOut => { s with frameOut := s.frameOut.drop 1 }

/-- Power-on reset: every register at its reset value and every port empty; the machine's parameters, the count of draws and
what the host does next are not the block's (R36, R280; log entry 9). -/
def State.powerOn (s : State) : State :=
  { State.reset with params := s.params, eventDraws := s.eventDraws, inputs := s.inputs }

/-- The end of a command whose buffer operand may be too long: refused rather than given a meaning (R52). -/
def State.withBuffer (s : State) (k : State) : Host.Outcome State Fault Refusal :=
  if s.operands.bufferFits then .next k else .refused .bufferTooLong

end Sys2Proof.Machine
end

