-- ==== Sys2Proof/Machine/FrameCodec.lean ====
section
/-! DEFINITION. FrameCodec: DECODE (spec/40_codec.md R110) and ENCODE (R125). Neither reads or writes a register. -/

namespace Sys2Proof.Machine

/-- The CAN id word of a buffer: bytes 4 to 7 (R72). -/
def idWord (buf : List Byte) : Word := rd32 buf 4

/-- The DLC code of a buffer: byte 8 (R72, R77). -/
def dlcCode (buf : List Byte) : Nat := (byteAt buf 8).toNat

/-- The flags byte of a buffer: byte 10 (R72, R79). -/
def flagsOf (buf : List Byte) : Byte := byteAt buf 10

/-- The frame a buffer's header and payload hold, given its data length: reserved bits and unused bytes are ignored (R76, R79,
R80, R81). -/
def frameOf (buf : List Byte) (dl : BitVec 7) : CanFrame :=
  { id := canIdNumber (idWord buf), isExtended := canIdExtended (idWord buf), isRemote := canIdRemote (idWord buf),
    isError := canIdError (idWord buf), isFD := flagFd (flagsOf buf), bitrateSwitch := flagBrs (flagsOf buf),
    errorStateIndicator := flagEsi (flagsOf buf), overflowFlag := flagOverflow (flagsOf buf), channel := byteAt buf 9,
    payload := (buf.drop headerLength).take dl.toNat,
    payloadFits := Nat.lt_of_le_of_lt (List.length_take_le _ _) dl.isLt, timestamp := none }

/-- The checks that need the data length, in the order of R110, and the decoded frame. -/
def decodeBody (mode : ChannelMode) (buf : List Byte) (dl : BitVec 7) : Except MalformedCause Decoded :=
  if buf.length - headerLength < dl.toNat then .error .shortPayload
  else if mode.ts && buf.length < timestampOffset mode + 4 then .error .shortTimestamp
  else if canIdTooWide (idWord buf) then .error .badId
  else .ok { echoId := rd32 buf 0, frame := frameOf buf dl,
             rawTs := if mode.ts then some (rd32 buf (timestampOffset mode)) else none }

/-- DECODE as a function of the mode and the buffer: the first failing check, or the frame (R110, R252). -/
def decodeFrame (mode : ChannelMode) (buf : List Byte) : Except MalformedCause Decoded :=
  if buf.length < headerLength then .error .shortHeader
  else if 15 < dlcCode buf then .error .badDlc
  else if flagFd (flagsOf buf) && !mode.fd then .error .fdNotEnabled
  else match dlc2len (flagFd (flagsOf buf)) (dlcCode buf) with
    | none => .error .badDlc
    | some dl => decodeBody mode buf dl

/-- The bytes of an outbound frame: the 12-byte header, the payload, and zeros to the end of the payload field (R72, R81,
R125). -/
def frameBytes (mode : ChannelMode) (e : Word) (f : CanFrame) (code : Nat) : List Byte :=
  wr32 e ++ wr32 (packCanId f) ++ [BitVec.ofNat 8 code, f.channel, packFlags f, 0] ++ f.payload
    ++ List.replicate (payloadFieldSize mode - (dataLength f).toNat) 0

/-- ENCODE as a function of the mode, the echo id and the frame: the first failing check, or the bytes (R125, R253). -/
def encodeFrame (mode : ChannelMode) (e : Word) (f : CanFrame) : Except InvalidCause (List Byte) :=
  if f.isFD && !mode.fd then .error .fdNotEnabled
  else match len2dlc f.isFD (dataLength f) with
    | none => .error .badLength
    | some code => .ok (frameBytes mode e f code)

/-- DECODE (R110). -/
def execDecode (mode : ChannelMode) (s : State) : Host.Outcome State Fault Refusal :=
  s.withBuffer
    (match decodeFrame mode s.operands.buf with
     | .ok d => (s.putFrame d.frame).finish .ok (.decoded d)
     | .error k => s.raise (.malformedFrame k))

/-- ENCODE (R125). -/
def execEncode (mode : ChannelMode) (s : State) : Host.Outcome State Fault Refusal :=
  .next
    (match encodeFrame mode s.operands.echoId s.operands.frame with
     | .ok bytes => s.finish .ok (.encoded bytes)
     | .error k => s.raise (.invalidFrame k))

end Sys2Proof.Machine
end

