-- ==== Sys2Proof/Machine/LinkStateMachine.lean ====
section
/-! DEFINITION. LinkStateMachine: LSM_CONSUME (spec/42_link_state.md R187), LSM_STOP (R188), LSM_SLEEP (R189) and STATE_READ (R190). -/

namespace Sys2Proof.Machine

/-- Write the three link-state registers. -/
def setLink (r : Registers) (state : LinkState) (tx rx : BitVec 8) : Registers :=
  { r with lsmState := state, lsmTxErr := tx, lsmRxErr := rx }

/-- The candidate transmit counter (R183). -/
def candidateTx (p : Params) (f : CanFrame) (r : Registers) : BitVec 8 :=
  if loadsCounters p f then txCounterByte f else r.lsmTxErr

/-- The candidate receive counter (R183). -/
def candidateRx (p : Params) (f : CanFrame) (r : Registers) : BitVec 8 :=
  if loadsCounters p f then rxCounterByte f else r.lsmRxErr

/-- The levels an error frame gives evidence of: controller status when CRTL is set, counters when they are loaded (R186). -/
def levelEvidence (p : Params) (f : CanFrame) (r : Registers) : List Level :=
  (if hasCrtl f then (levelCrtl (controllerStatus f)).toList else [])
    ++ (if loadsCounters p f then [levelCnt (candidateTx p f r) (candidateRx p f r)] else [])

/-- The state the evidence of an error frame gives, the old one when there is none (R186). -/
def levelNext (p : Params) (f : CanFrame) (r : Registers) : LinkState :=
  match maxLevel (levelEvidence p f r) with
  | none => r.lsmState
  | some l => levelState l

/-- `lsmNext` on the registers, for a recognized frame: the first arm that applies (R186). -/
def lsmNext (p : Params) (f : CanFrame) (r : Registers) : Registers :=
  if hasBusOff f then setLink r .busOff (candidateTx p f r) (candidateRx p f r)
  else match r.lsmState with
    | .stopped | .sleeping => r
    | .busOff =>
      if hasRestarted f then setLink r .errorActive 0 0
      else setLink r .busOff (candidateTx p f r) (candidateRx p f r)
    | .errorActive | .errorWarning | .errorPassive =>
      if hasRestarted f then setLink r .errorActive 0 0
      else setLink r (levelNext p f r) (candidateTx p f r) (candidateRx p f r)

/-- What LSM_CONSUME reports of a frame (R187, R255). -/
def consumeResult (f : CanFrame) : CommandResult := if recognized f then .ok else .unrecognizedErrorFrame

/-- Feed a frame to the state machine: a recognized one moves the registers, any other emits an event and changes none
(R187, R255). -/
def State.consume (s : State) (f : CanFrame) : State :=
  if recognized f then { s with regs := lsmNext s.params f s.regs } else s.emit .unrecognizedErrorFrame

/-- LSM_CONSUME (R187). -/
def execLsmConsume (s : State) : Host.Outcome State Fault Refusal :=
  .next ((s.consume s.operands.frame).finish (consumeResult s.operands.frame) .none)

/-- LSM_STOP (R188). -/
def execLsmStop (s : State) : Host.Outcome State Fault Refusal :=
  .next (State.finish { s with regs := { s.regs with lsmState := .stopped } } .ok .none)

/-- LSM_SLEEP (R189). -/
def execLsmSleep (s : State) : Host.Outcome State Fault Refusal :=
  .next (State.finish { s with regs := { s.regs with lsmState := .sleeping } } .ok .none)

/-- STATE_READ (R190). -/
def execStateRead (s : State) : Host.Outcome State Fault Refusal :=
  .next (s.finish .ok (.snapshot (linkStateCode s.regs.lsmState) s.regs.lsmTxErr s.regs.lsmRxErr))

end Sys2Proof.Machine
end

