-- ==== Sys2Proof/Machine/TimestampEngine.lean ====
section
/-! DEFINITION. TimestampEngine: TS_OBSERVE (spec/41_timestamp.md R155) and TS_RESYNC (R158). -/

namespace Sys2Proof.Machine

/-- Microseconds since the anchor, modulo 2^64: the epoch's wraps, the raw value and the anchor's raw value (R150). -/
def elapsed (r : Registers) (epoch raw : Word) : HostTime :=
  (epoch.setWidth 64 <<< 32) + raw.setWidth 64 - r.tsZeroRaw.setWidth 64

/-- `conv(e, r)`: the host time of a raw value in an epoch (R150). -/
def conv (r : Registers) (epoch raw : Word) : HostTime := r.tsBaseHost + elapsed r epoch raw

/-- `f(r)`: the forward distance of a sample from TS_LAST_RAW (R151). -/
def forwardDistance (r : Registers) (raw : Word) : Word := raw - r.tsLastRaw

/-- How the wrap rule takes a sample (R153). -/
inductive SampleClass where
  | advance
  | stale
  deriving DecidableEq, Repr

/-- `classify(r)` (R152, R153). -/
def classify (p : Params) (r : Registers) (raw : Word) : SampleClass :=
  if (forwardDistance r raw).toNat < 2 ^ 31 then .advance
  else if 2 ^ 31 < (forwardDistance r raw).toNat then .stale
  else if p.tieStale then .stale
  else .advance

/-- The epoch after an advancing sample, one more when it wraps (R153, R155). -/
def advanceEpoch (r : Registers) (raw : Word) : Word :=
  if raw.toNat < r.tsLastRaw.toNat then r.tsWrap + 1 else r.tsWrap

/-- The epoch of a stale sample (R154). -/
def staleEpoch (r : Registers) (raw : Word) : Word :=
  if raw.toNat ≤ r.tsLastRaw.toNat then r.tsWrap else r.tsWrap - 1

/-- TS_OBSERVE on the registers: the registers after it and the host time, absent before the anchor (R155, R156). -/
def observe (p : Params) (r : Registers) (raw : Word) : Registers × Option HostTime :=
  if r.tsValid then
    match classify p r raw with
    | .advance =>
      ({ r with tsWrap := advanceEpoch r raw, tsLastRaw := raw }, some (conv r (advanceEpoch r raw) raw))
    | .stale => (r, some (conv r (staleEpoch r raw) raw))
  else (r, none)

/-- `anchor(r, h)` (R157). -/
def anchor (r : Registers) (raw : Word) (hostNow : HostTime) : Registers :=
  { r with tsValid := true, tsZeroRaw := raw, tsLastRaw := raw, tsWrap := 0, tsBaseHost := hostNow }

/-- Whether a conversion lies further from the host sample than the parameter allows (R158). -/
def driftTooLarge (p : Params) (c hostNow : HostTime) : Bool :=
  match p.resyncMaxDriftUs with
  | none => false
  | some m => m.toNat < (c - hostNow).toInt.natAbs

/-- An ordinary resync: the sample converts to the host time given with it, and TS_ZERO_RAW stays (R158, R159). -/
def recalibrate (r : Registers) (raw : Word) (hostNow : HostTime) : Registers :=
  { r with tsWrap := advanceEpoch r raw, tsLastRaw := raw,
           tsBaseHost := hostNow - elapsed r (advanceEpoch r raw) raw }

/-- TS_RESYNC on the registers: the registers after it and the status (R158). -/
def resync (p : Params) (r : Registers) (raw : Word) (hostNow : HostTime) : Registers × ResyncStatus :=
  if r.tsValid then
    match classify p r raw with
    | .stale => (anchor r raw hostNow, .hardReset)
    | .advance =>
      if driftTooLarge p (conv r (advanceEpoch r raw) raw) hostNow then (anchor r raw hostNow, .hardReset)
      else (recalibrate r raw hostNow, .ok)
  else (anchor r raw hostNow, .anchored)

/-- TS_OBSERVE (R155). -/
def execTsObserve (s : State) : Host.Outcome State Fault Refusal :=
  .next (State.finish { s with regs := (observe s.params s.regs s.operands.raw).1 } .ok
    (.observed (observe s.params s.regs s.operands.raw).2))

/-- TS_RESYNC (R158). -/
def execTsResync (s : State) : Host.Outcome State Fault Refusal :=
  .next (State.finish { s with regs := (resync s.params s.regs s.operands.raw s.operands.hostNow).1 } .ok
    (.resynced (resync s.params s.regs s.operands.raw s.operands.hostNow).2))

end Sys2Proof.Machine
end

