-- ==== Sys2Proof/Machine/Ingest.lean ====
section
/-! DEFINITION. INGEST (spec/43_ingest_control.md R220), CHANNEL_START (R229) and REG_READ (R230). -/

namespace Sys2Proof.Machine

/-- The RX sentinel, all bits set (R73, R224). -/
def rxSentinel : Word := 0xFFFFFFFF

/-- Convert the raw timestamp of a decoded frame, when it has one, tracking wraps whatever the frame's class (R222). -/
def observeDecoded (p : Params) (r : Registers) (d : Decoded) : Registers × Option HostTime :=
  match d.rawTs with
  | none => (r, none)
  | some t => observe p r t

/-- The frame of a decoded buffer with its host time (R220). -/
def stampedFrame (p : Params) (r : Registers) (d : Decoded) : CanFrame :=
  { d.frame with timestamp := (observeDecoded p r d).2 }

/-- RxOverflow for a frame whose header overflow flag is set; no register changes because of it (R223). -/
def State.signalOverflow (s : State) (f : CanFrame) : State := if f.overflowFlag then s.emit .rxOverflow else s

/-- Route a decoded and stamped frame: an echo id to the echo output, an error frame to the state machine, any other to the
data output (R220, R224). -/
def State.route (s : State) (echoId : Word) (f : CanFrame) : State :=
  if echoId = rxSentinel then
    if f.isError then (s.consume f).finish (consumeResult f) (.ingested .error)
    else (s.deliver f).finish .ok (.ingested (.data f))
  else (s.echo { echoId := echoId, frame := f }).finish .ok (.ingested (.echo { echoId := echoId, frame := f }))

/-- INGEST of a buffer that decodes: observe, signal overflow, route (R220). -/
def State.ingestDecoded (s : State) (d : Decoded) : State :=
  (State.signalOverflow { s with regs := (observeDecoded s.params s.regs d).1 } d.frame).route d.echoId
    (stampedFrame s.params s.regs d)

/-- INGEST of a buffer that does not decode: reported, discarded, and nothing else written (R220, R221). -/
def State.ingestMalformed (s : State) (k : MalformedCause) : State :=
  (s.emit (.malformedFrame k)).finish (.malformedFrame k) (.ingested .discarded)

/-- INGEST (R220). -/
def execIngest (mode : ChannelMode) (s : State) : Host.Outcome State Fault Refusal :=
  s.withBuffer
    (match decodeFrame mode s.operands.buf with
     | .ok d => s.ingestDecoded d
     | .error k => s.ingestMalformed k)

/-- CHANNEL_START (R229): every register takes its reset value; the ports keep what the host has not taken. -/
def execChannelStart (s : State) : Host.Outcome State Fault Refusal :=
  .next (State.finish { s with regs := Registers.reset } .ok .none)

/-- REG_READ (R230). -/
def execRegRead (idx : BitVec 8) (s : State) : Host.Outcome State Fault Refusal :=
  .next
    (match registerAt s.regs idx with
     | some v => s.finish .ok (.value v)
     | none => s.raise (.illegalCommand .badIndex))

end Sys2Proof.Machine
end

