-- ==== Sys2Proof/Machine/Dispatch.lean ====
section
/-! DEFINITION. The meaning of each command, one arm per constructor. -/

namespace Sys2Proof.Machine

/-- What a command does, its operands on the command port. -/
def exec (i : Instr) (s : State) : Host.Outcome State Fault Refusal :=
  match i with
  | .decode mode => Sys2Proof.Machine.execDecode mode s
  | .encode mode => Sys2Proof.Machine.execEncode mode s
  | .ingest mode => Sys2Proof.Machine.execIngest mode s
  | .tsObserve => Sys2Proof.Machine.execTsObserve s
  | .tsResync => Sys2Proof.Machine.execTsResync s
  | .lsmConsume => Sys2Proof.Machine.execLsmConsume s
  | .lsmStop => Sys2Proof.Machine.execLsmStop s
  | .lsmSleep => Sys2Proof.Machine.execLsmSleep s
  | .channelStart => Sys2Proof.Machine.execChannelStart s
  | .stateRead => Sys2Proof.Machine.execStateRead s
  | .regRead idx => Sys2Proof.Machine.execRegRead idx s

end Sys2Proof.Machine
end

