-- ==== Sys2Proof/Machine/Issue.lean ====
section
/-! DEFINITION. How the block accepts what the host does: a command word is decoded before any operand is read (spec/60_exceptions.md R259), and an illegal word ends with its cause (R254). -/

namespace Sys2Proof.Machine

/-- The command port takes a command: its operands stand on the port, the word is decoded, and the instruction runs; a word
that selects no command raises IllegalCommand and writes no register (R96, R254, R259). -/
def State.issue (s : State) (word : Word) (ops : Operands) : Host.Outcome State Fault Refusal :=
  match Sys2Proof.decode word with
  | .ok i => exec i (s.latch ops)
  | .error k => .next ((s.latch ops).raise (.illegalCommand k))

/-- One action of the host. -/
def State.perform (s : State) : HostInput → Host.Outcome State Fault Refusal
  | .command word ops => s.issue word ops
  | .take port => .next (s.takeFrom port)
  | .powerOn => .next s.powerOn

/-- The operands that stand with the next command: those the host drives if its next action is a command, else those on the
port (log entry 1). -/
def State.nextOperands (s : State) : Operands :=
  match s.inputs with
  | .command _ ops :: _ => ops
  | _ => s.operands

/-- What the host does after its next command, if its next action is one. -/
def State.laterInputs (s : State) : List HostInput :=
  match s.inputs with
  | .command _ _ :: rest => rest
  | other => other

end Sys2Proof.Machine
end

