-- ==== Sys2Proof/Machine/Step.lean ====
section
/-! DEFINITION. One step: the host's next action; with none pending the block waits, since it never advances by itself (spec/60_exceptions.md R265). -/

namespace Sys2Proof.Machine

/-- One step of the machine. -/
def step (s : State) : Host.Outcome State Fault Refusal :=
  match s.inputs with
  | [] => .next s
  | input :: rest => State.perform { s with inputs := rest } input

/-- The state in which the host's next action is to issue the command of a table row. A pending command keeps its operands
and only its word is replaced; any other pending action comes after (log entry 1). -/
def State.withFetchWord (s : State) (nbits w : Nat) : State :=
  { s with inputs := .command (tableWord nbits w) s.nextOperands :: s.laterInputs }

end Sys2Proof.Machine
end

