-- ==== Sys2Proof/Safety.lean ====
section
/-! DEFINITION. The terms claims are stated in: valid frames (spec/40_codec.md R137), what every frame on a port satisfies (spec/00_scope.md R11), the invariants, the events a command offers (spec/60_exceptions.md R256), runs of steps, and the host's duties (spec/70_reset_and_hazards.md R282 to R284). -/

namespace Sys2Proof.Safety

open Sys2Proof.Machine

/-- The id fits its framing (R11: "extended-only id bits must be zero when `isExtended` is false", R76). -/
abbrev IdFits (f : CanFrame) : Prop := f.id.toNat < if f.isExtended then 2 ^ 29 else 2 ^ 11

/-- The data length has a DLC code for the frame's kind (R83 to R85). -/
abbrev LengthFits (f : CanFrame) : Prop := (len2dlc f.isFD (dataLength f)).isSome = true

/-- A frame valid for a channel mode, as the round-trip law takes it (R137). -/
abbrev ValidFor (mode : ChannelMode) (f : CanFrame) : Prop :=
  IdFits f ∧ LengthFits f ∧ (f.isFD = true → mode.fd = true) ∧ f.timestamp = none

/-- What holds of every frame the block delivers: its id fits its framing and its length has a code (R11, R76, R83). -/
abbrev DeliverableFrame (f : CanFrame) : Prop := IdFits f ∧ LengthFits f

/-- What holds of the output ports: data frames are no error frames, echo entries carry no sentinel, DECODE's frames carry no
timestamp, and every frame is deliverable (R110, R220, R224). -/
structure PortsSound (s : State) : Prop where
  data : ∀ f ∈ s.dataOut, DeliverableFrame f ∧ f.isError = false
  echo : ∀ e ∈ s.echoOut, DeliverableFrame e.frame ∧ e.echoId ≠ rxSentinel
  decoded : ∀ f ∈ s.frameOut, DeliverableFrame f ∧ f.timestamp = none

/-- Before the anchor the timestamp registers are held at 0 (spec/70_reset_and_hazards.md R281, R36). -/
abbrev UnanchoredHeldAtZero (s : State) : Prop :=
  s.regs.tsValid = false →
    s.regs.tsLastRaw = 0 ∧ s.regs.tsZeroRaw = 0 ∧ s.regs.tsBaseHost = 0 ∧ s.regs.tsWrap = 0

/-- The events the routing of a decoded frame offers, in order (R220, R256, R257). -/
def eventsOfDecoded (d : Decoded) : List Event :=
  (if d.frame.overflowFlag then [.rxOverflow] else [])
    ++ (if d.echoId = rxSentinel ∧ d.frame.isError = true ∧ recognized d.frame = false then [.unrecognizedErrorFrame] else [])

/-- The events a command offers to the event port, in order (R256). -/
def offeredEvents (i : Instr) (s : State) : List Event :=
  match i with
  | .lsmConsume => if recognized s.operands.frame then [] else [.unrecognizedErrorFrame]
  | .ingest mode =>
    match decodeFrame mode s.operands.buf with
    | .error k => [.malformedFrame k]
    | .ok d => eventsOfDecoded d
  | .decode _ | .encode _ | .tsObserve | .tsResync | .lsmStop | .lsmSleep | .channelStart | .stateRead | .regRead _ => []

/-- The frame a command feeds to the link state machine, if it feeds one (R187, R220). -/
def consumedFrame (i : Instr) (s : State) : Option CanFrame :=
  match i with
  | .lsmConsume => some s.operands.frame
  | .ingest mode =>
    match decodeFrame mode s.operands.buf with
    | .error _ => none
    | .ok d => if d.echoId = rxSentinel ∧ d.frame.isError = true then some d.frame else none
  | .decode _ | .encode _ | .tsObserve | .tsResync | .lsmStop | .lsmSleep | .channelStart | .stateRead | .regRead _ => none

/-- The result records after each of the first `n` steps, as far as the run goes. -/
def stepResults : Nat → State → List (Option ResultRecord)
  | 0, _ => []
  | n + 1, s =>
    match step s with
    | .next t => t.result :: stepResults n t
    | .fault _ => []
    | .refused _ => []

/-- The state after `n` steps, or the stop a step ended in. -/
def runSteps : Nat → State → Host.Outcome State Fault Refusal
  | 0, s => .next s
  | n + 1, s =>
    match step s with
    | .next t => runSteps n t
    | .fault r => .fault r
    | .refused r => .refused r

/-- The host issues one TS_OBSERVE per sample. -/
def observeCommands (raws : List Word) : List HostInput :=
  raws.map fun raw => .command 0x00000004 { idleOperands with raw := raw }

/-- Every sample lies less than half the counter's range ahead of the one before it (R160, R284). -/
def SamplesClose (last : Word) : List Word → Prop
  | [] => True
  | raw :: rest => (raw - last).toNat < 2 ^ 31 ∧ SamplesClose raw rest

/-- The host times of such a sequence: each is the one before it plus the distance the counter moved (R160). -/
def advancingTimes (time : HostTime) (last : Word) : List Word → List HostTime
  | [] => []
  | raw :: rest => (time + (raw - last).setWidth 64) :: advancingTimes (time + (raw - last).setWidth 64) raw rest

/-- How far the counter moves over a sequence of samples. -/
def totalDistance (last : Word) : List Word → Nat
  | [] => 0
  | raw :: rest => (raw - last).toNat + totalDistance raw rest

/-- The host's duty of mode consistency: every DECODE, ENCODE and INGEST word carries the negotiated mode (R283). -/
def ModesConsistent (mode : ChannelMode) (inputs : List HostInput) : Prop :=
  ∀ w ops, HostInput.command w ops ∈ inputs →
    ∀ m, (decode w = .ok (.decode m) ∨ decode w = .ok (.encode m) ∨ decode w = .ok (.ingest m)) → m = mode

/-- The bring-up sequence of a channel: CHANNEL_START, then a TS_RESYNC when the channel has timestamps (R282). -/
def BringUp (mode : ChannelMode) (inputs : List HostInput) : Prop :=
  ∃ start rest, inputs = .command 0x00000009 start :: rest ∧
    (mode.ts = true → ∃ sample later, rest = .command 0x00000005 sample :: later)

end Sys2Proof.Safety
end

