-- ==== Sys2Proof/Certificates/Slice0/Obligations.lean ====
section
/-! DEFINITION. The statements for the provers, from the numbered rules of spec/. A statement that rests on a choice of the model names the log entry. Numbers are written in the rules' own arithmetic (naturals and integers), not by the model's functions, wherever the rule gives a value. -/

open Sys2Proof Sys2Proof.Machine Sys2Proof.Safety

/-! ### Command words -/

/-- Every word has one reading: it decodes to a command exactly when it is that command's word (R91, R92, R96). -/
def Obligations.CommandWordDecodesExactlyWhenEncoded : Prop :=
  ∀ (w : Word) (i : Instr), decode w = .ok i ↔ w = encode i

/-- R92: the match and mask of each row of the opcode table select its command; ops 0x0 and 0xC-0xF are reserved. -/
def Obligations.OpcodeTableRowsSelectTheirCommands : Prop :=
  ∀ w : Word,
    (w &&& 0xFFFFFFCF = 0x00000001 ↔ ∃ mode, decode w = .ok (.decode mode)) ∧
    (w &&& 0xFFFFFFCF = 0x00000002 ↔ ∃ mode, decode w = .ok (.encode mode)) ∧
    (w &&& 0xFFFFFFCF = 0x00000003 ↔ ∃ mode, decode w = .ok (.ingest mode)) ∧
    (w &&& 0xFFFFFFFF = 0x00000004 ↔ decode w = .ok .tsObserve) ∧
    (w &&& 0xFFFFFFFF = 0x00000005 ↔ decode w = .ok .tsResync) ∧
    (w &&& 0xFFFFFFFF = 0x00000006 ↔ decode w = .ok .lsmConsume) ∧
    (w &&& 0xFFFFFFFF = 0x00000007 ↔ decode w = .ok .lsmStop) ∧
    (w &&& 0xFFFFFFFF = 0x00000008 ↔ decode w = .ok .lsmSleep) ∧
    (w &&& 0xFFFFFFFF = 0x00000009 ↔ decode w = .ok .channelStart) ∧
    (w &&& 0xFFFFFFFF = 0x0000000A ↔ decode w = .ok .stateRead) ∧
    (w &&& 0xFFFF00FF = 0x0000000B ↔ ∃ idx, decode w = .ok (.regRead idx)) ∧
    (w.toNat % 16 = 0 ∨ 12 ≤ w.toNat % 16 → decode w = .error .badOpcode)

/-- R93: bits 4 and 5 of DECODE, ENCODE and INGEST are the channel mode, and ENCODE ignores TS. -/
def Obligations.ModeBitsAreTheChannelMode : Prop :=
  (∀ (w : Word) (mode : ChannelMode),
    (decode w = .ok (.decode mode) ∨ decode w = .ok (.encode mode) ∨ decode w = .ok (.ingest mode)) →
      (mode.fd = true ↔ w.toNat / 2 ^ 4 % 2 = 1) ∧ (mode.ts = true ↔ w.toNat / 2 ^ 5 % 2 = 1)) ∧
  ∀ (fd : Bool) (s : State), exec (.encode { fd := fd, ts := true }) s = exec (.encode { fd := fd, ts := false }) s

/-- R96: a word with a reserved op or a reserved bit set ends with IllegalCommand and writes no register and no port but the
result; every other word is a command. The pending inputs and the operands left on the ports are the model's (log entries 1, 2). -/
def Obligations.IllegalWordsRaiseAndWriteNothing : Prop :=
  ∀ (s : State) (w : Word) (ops : Operands) (rest : List HostInput), s.inputs = .command w ops :: rest →
    let op := w.toNat % 16
    let reserved : Prop :=
      w.toNat / 2 ^ 16 ≠ 0 ∨ w.toNat / 2 ^ 6 % 4 ≠ 0 ∨ (op ≠ 0xB ∧ w.toNat / 2 ^ 8 % 256 ≠ 0) ∨
        (3 < op ∧ w.toNat / 2 ^ 4 % 4 ≠ 0)
    let ends (k : IllegalCause) : Prop :=
      step s = .next { s with inputs := rest, operands := ops,
                              result := some { result := .illegalCommand k, outputs := .none } }
    (op = 0 ∨ 12 ≤ op → ends .badOpcode) ∧
    (0 < op ∧ op < 12 ∧ reserved → ends .reservedBits) ∧
    (0 < op ∧ op < 12 ∧ ¬ reserved → ∃ i, decode w = .ok i)

/-- The words of the spec's examples (R92, R97) and one written out for each other row. -/
def Obligations.ExampleWordsDecodeToTheirCommands : Prop :=
  decode 0x00000023 = .ok (.ingest { fd := false, ts := true }) ∧
  decode 0x0000080B = .ok (.regRead 8) ∧
  decode 0x00000011 = .ok (.decode { fd := true, ts := false }) ∧
  decode 0x00000012 = .ok (.encode { fd := true, ts := false }) ∧
  decode 0x00000004 = .ok .tsObserve ∧ decode 0x00000005 = .ok .tsResync ∧ decode 0x00000006 = .ok .lsmConsume ∧
  decode 0x00000007 = .ok .lsmStop ∧ decode 0x00000008 = .ok .lsmSleep ∧ decode 0x00000009 = .ok .channelStart ∧
  decode 0x0000000A = .ok .stateRead

/-! ### The step -/

/-- A step on a pending command whose word decodes runs that command with its operands on the port (R58, R95; the pending
inputs are the model's, log entry 1). -/
def Obligations.StepRunsTheDecodedCommand : Prop :=
  ∀ (s : State) (w : Word) (ops : Operands) (rest : List HostInput) (i : Instr),
    s.inputs = .command w ops :: rest → decode w = .ok i →
      step s = exec i { s with inputs := rest, operands := ops }

/-- What else a step does: with nothing pending the block waits (R265); the host takes the oldest entry of a port (R263, log
entry 7); power-on leaves every register at its reset value and every port empty (R280, log entry 9). -/
def Obligations.HostActionsBetweenCommands : Prop :=
  ∀ (s : State) (rest : List HostInput),
    (s.inputs = [] → step s = .next s) ∧
    (s.inputs = .take .events :: rest → ∀ e es, s.events = e :: es →
      step s = .next { s with inputs := rest, events := es }) ∧
    (s.inputs = .take .dataOut :: rest → ∀ f fs, s.dataOut = f :: fs →
      step s = .next { s with inputs := rest, dataOut := fs }) ∧
    (s.inputs = .take .echoOut :: rest → ∀ e es, s.echoOut = e :: es →
      step s = .next { s with inputs := rest, echoOut := es }) ∧
    (s.inputs = .take .frameOut :: rest → ∀ f fs, s.frameOut = f :: fs →
      step s = .next { s with inputs := rest, frameOut := fs }) ∧
    (s.inputs = .powerOn :: rest → ∃ t, step s = .next t ∧ t.regs = State.reset.regs ∧ t.result = none ∧
      t.events = [] ∧ t.dataOut = [] ∧ t.echoOut = [] ∧ t.frameOut = [] ∧ t.params = s.params ∧ t.inputs = rest)

/-- Every step keeps the parameters, takes exactly the oldest pending input and never un-draws an event (the model's own
fields, log entries 1, 4, 6). -/
def Obligations.StepKeepsParametersAndTakesOneInput : Prop :=
  ∀ s t : State, step s = .next t →
    t.params = s.params ∧ t.inputs = s.inputs.drop 1 ∧ s.eventDraws ≤ t.eventDraws ∧ t.eventDraws ≤ s.eventDraws + 2

/-- No command stops the machine, but that DECODE and INGEST refuse a buffer longer than `P_MAX_BUF_LEN` (R52, R191, R250). -/
def Obligations.OnlyALongBufferIsRefused : Prop :=
  ∀ (i : Instr) (s : State),
    ((∃ t, exec i s = .next t) ∨ exec i s = .refused .bufferTooLong) ∧
    (exec i s = .refused .bufferTooLong ↔
      Config.maxBufLen < s.operands.buf.length ∧ ((∃ mode, i = .decode mode) ∨ ∃ mode, i = .ingest mode))

/-! ### Reset -/

/-- The registers and ports after power-on reset (R36, R280). -/
def Obligations.ResetLeavesTheResetValues : Prop :=
  State.reset.regs =
    { lsmState := .errorActive, lsmTxErr := 0, lsmRxErr := 0, tsValid := false, tsLastRaw := 0, tsZeroRaw := 0,
      tsBaseHost := 0, tsWrap := 0 } ∧
  State.reset.result = none ∧ State.reset.events = [] ∧ State.reset.dataOut = [] ∧ State.reset.echoOut = [] ∧
  State.reset.frameOut = []

/-- CHANNEL_START puts every register at its reset value and leaves the ports (R229, R36). -/
def Obligations.ChannelStartResetsEveryRegister : Prop :=
  ∀ s : State, exec .channelStart s = .next
    { s with
      regs := { lsmState := .errorActive, lsmTxErr := 0, lsmRxErr := 0, tsValid := false, tsLastRaw := 0,
                tsZeroRaw := 0, tsBaseHost := 0, tsWrap := 0 }
      result := some { result := .ok, outputs := .none } }

/-! ### FrameCodec -/

/-- DECODE: the first failing check of R110 in its order, or the frame, echo id and raw timestamp read at their offsets with
little-endian words; no register is written. That the frame also stands on the frame output is log entry 13. -/
def Obligations.DecodeReportsFirstFailureOrFrame : Prop :=
  ∀ (mode : ChannelMode) (s : State), s.operands.buf.length ≤ Config.maxBufLen →
    let buf := s.operands.buf
    let n := buf.length
    let byte (i : Nat) : Nat := (buf.getD i 0).toNat
    let word (off : Nat) : Nat := byte off + 2 ^ 8 * byte (off + 1) + 2 ^ 16 * byte (off + 2) + 2 ^ 24 * byte (off + 3)
    let code := byte 8
    let cid := word 4
    let P := if mode.fd then 64 else 8
    let dl := if code ≤ 8 then code else [12, 16, 20, 24, 32, 48, 64].getD (code - 9) 0
    let fails (k : MalformedCause) : Prop :=
      exec (.decode mode) s = .next { s with result := some { result := .malformedFrame k, outputs := .none } }
    if n < 12 then fails .shortHeader
    else if 15 < code then fails .badDlc
    else if byte 10 / 2 % 2 = 1 ∧ mode.fd = false then fails .fdNotEnabled
    else if byte 10 / 2 % 2 = 0 ∧ 8 < code then fails .badDlc
    else if n - 12 < dl then fails .shortPayload
    else if mode.ts = true ∧ n < 12 + P + 4 then fails .shortTimestamp
    else if cid / 2 ^ 31 = 0 ∧ cid % 2 ^ 29 / 2 ^ 11 ≠ 0 then fails .badId
    else ∃ f : CanFrame,
      exec (.decode mode) s = .next
        { s with
          frameOut := s.frameOut ++ [f]
          result := some
            { result := .ok
              outputs := .decoded
                { echoId := BitVec.ofNat 32 (word 0), frame := f,
                  rawTs := if mode.ts then some (BitVec.ofNat 32 (word (12 + P))) else none } } } ∧
      f.id.toNat = cid % 2 ^ 29 ∧ (f.isExtended = true ↔ cid / 2 ^ 31 % 2 = 1) ∧
      (f.isRemote = true ↔ cid / 2 ^ 30 % 2 = 1) ∧ (f.isError = true ↔ cid / 2 ^ 29 % 2 = 1) ∧
      (f.overflowFlag = true ↔ byte 10 % 2 = 1) ∧ (f.isFD = true ↔ byte 10 / 2 % 2 = 1) ∧
      (f.bitrateSwitch = true ↔ byte 10 / 4 % 2 = 1) ∧ (f.errorStateIndicator = true ↔ byte 10 / 8 % 2 = 1) ∧
      f.channel.toNat = byte 9 ∧ f.timestamp = none ∧
      f.payload = (List.range dl).map fun i => buf.getD (12 + i) 0

/-- R80: the reserved byte 11 and flags bits 7:4 never affect a DECODE, and ENCODE writes them as zero. -/
def Obligations.ReservedHeaderBitsNeverAffectAResult : Prop :=
  (∀ (mode : ChannelMode) (s : State) (other : List Byte),
    s.operands.buf.length ≤ Config.maxBufLen → other.length = s.operands.buf.length →
    (∀ i, i ≠ 10 → i ≠ 11 → other.getD i 0 = s.operands.buf.getD i 0) →
    (other.getD 10 0).toNat % 16 = (s.operands.buf.getD 10 0).toNat % 16 →
      ∃ t, exec (.decode mode) s = .next t ∧
        exec (.decode mode) { s with operands := { s.operands with buf := other } } =
          .next { t with operands := { s.operands with buf := other } }) ∧
  ∀ (mode : ChannelMode) (s t : State) (bytes : List Byte),
    exec (.encode mode) s = .next t → t.result = some { result := .ok, outputs := .encoded bytes } →
      (bytes.getD 11 0).toNat = 0 ∧ (bytes.getD 10 0).toNat < 16

/-- Bytes past the layout of the mode never affect a DECODE (R110, decision D10). -/
def Obligations.BytesPastTheLayoutAreIgnored : Prop :=
  ∀ (mode : ChannelMode) (s : State) (extra : List Byte),
    (s.operands.buf ++ extra).length ≤ Config.maxBufLen →
    12 + (if mode.fd then 64 else 8) + (if mode.ts then 4 else 0) ≤ s.operands.buf.length →
      ∃ t, exec (.decode mode) s = .next t ∧
        exec (.decode mode) { s with operands := { s.operands with buf := s.operands.buf ++ extra } } =
          .next { t with operands := { s.operands with buf := s.operands.buf ++ extra } }

/-- DECODE depends on its mode and buffer alone and leaves every register (R56, R117). -/
def Obligations.DecodeDependsOnItsBufferAlone : Prop :=
  ∀ (mode : ChannelMode) (s other : State), s.operands.buf.length ≤ Config.maxBufLen →
    other.operands.buf = s.operands.buf →
      ∃ t t', exec (.decode mode) s = .next t ∧ exec (.decode mode) other = .next t' ∧ t'.result = t.result ∧
        t.regs = s.regs ∧ t'.regs = other.regs ∧ t.events = s.events ∧ t'.events = other.events

/-- ENCODE: the first failing check of R125, or 20 or 76 bytes with every field at its offset and no timestamp; no register is
written. -/
def Obligations.EncodeReportsFirstFailureOrBytes : Prop :=
  ∀ (mode : ChannelMode) (s : State),
    let f := s.operands.frame
    let n := f.payload.length
    let lengths := [12, 16, 20, 24, 32, 48, 64]
    let P := if mode.fd then 64 else 8
    let cid := f.isExtended.toNat * 2 ^ 31 + f.isRemote.toNat * 2 ^ 30 + f.isError.toNat * 2 ^ 29
      + f.id.toNat % (if f.isExtended then 2 ^ 29 else 2 ^ 11)
    let fails (k : InvalidCause) : Prop :=
      exec (.encode mode) s = .next { s with result := some { result := .invalidFrame k, outputs := .none } }
    if f.isFD = true ∧ mode.fd = false then fails .fdNotEnabled
    else if ¬ (n ≤ 8 ∨ (f.isFD = true ∧ n ∈ lengths)) then fails .badLength
    else ∃ bytes : List Byte,
      exec (.encode mode) s = .next { s with result := some { result := .ok, outputs := .encoded bytes } } ∧
      bytes.length = 12 + P ∧
      (∀ k < 4, (bytes.getD k 0).toNat = s.operands.echoId.toNat / 2 ^ (8 * k) % 256) ∧
      (∀ k < 4, (bytes.getD (4 + k) 0).toNat = cid / 2 ^ (8 * k) % 256) ∧
      (bytes.getD 8 0).toNat = (if n ≤ 8 then n else 9 + lengths.idxOf n) ∧
      bytes.getD 9 0 = f.channel ∧
      (bytes.getD 10 0).toNat = f.overflowFlag.toNat + 2 * f.isFD.toNat + 4 * f.bitrateSwitch.toNat
        + 8 * f.errorStateIndicator.toNat ∧
      bytes.getD 11 0 = 0 ∧
      ∀ i < P, bytes.getD (12 + i) 0 = f.payload.getD i 0

/-- R136, R127: ENCODE clears the unused id bits and keeps the three flags on top; DECODE rejects an id too wide for its
framing. -/
def Obligations.IdsAreMaskedOnEncodeAndRejectedOnDecode : Prop :=
  (∀ (mode : ChannelMode) (s t : State) (bytes : List Byte),
    exec (.encode mode) s = .next t → t.result = some { result := .ok, outputs := .encoded bytes } →
      let f := s.operands.frame
      let byte (i : Nat) : Nat := (bytes.getD i 0).toNat
      let cid := byte 4 + 2 ^ 8 * byte 5 + 2 ^ 16 * byte 6 + 2 ^ 24 * byte 7
      cid / 2 ^ 29 = 4 * f.isExtended.toNat + 2 * f.isRemote.toNat + f.isError.toNat ∧
      (f.isExtended = false → cid % 2 ^ 29 = f.id.toNat % 2 ^ 11) ∧
      (f.isExtended = true → cid % 2 ^ 29 = f.id.toNat % 2 ^ 29)) ∧
  ∀ (mode : ChannelMode) (s : State), s.operands.buf.length ≤ Config.maxBufLen →
    let byte (i : Nat) : Nat := (s.operands.buf.getD i 0).toNat
    let cid := byte 4 + 2 ^ 8 * byte 5 + 2 ^ 16 * byte 6 + 2 ^ 24 * byte 7
    cid / 2 ^ 31 = 0 → cid % 2 ^ 29 / 2 ^ 11 ≠ 0 →
      ∃ k, exec (.decode mode) s =
        .next { s with result := some { result := .malformedFrame k, outputs := .none } }

/-- R135 and the inverse of R85: the DLC tables, and that each is the other's inverse on valid codes. -/
def Obligations.DlcTablesInvertEachOther : Prop :=
  ([9, 10, 11, 12, 13, 14, 15].map (dlc2len true) = ([12, 16, 20, 24, 32, 48, 64] : List (BitVec 7)).map some) ∧
  (∀ code ≤ 8, ∀ isFD : Bool, ∃ n, dlc2len isFD code = some n ∧ n.toNat = code) ∧
  (∀ code, 8 < code → dlc2len false code = none) ∧
  ∀ (isFD : Bool) (n : BitVec 7) (code : Nat), len2dlc isFD n = some code ↔ dlc2len isFD code = some n

/-- R137, the round trip: a frame valid for the mode encodes, and the bytes, with a timestamp appended where the mode has one,
decode to the same echo id, frame and timestamp, in any state. -/
def Obligations.DecodeInvertsEncode : Prop :=
  ∀ (mode : ChannelMode) (s : State), ValidFor mode s.operands.frame →
    ∃ bytes, exec (.encode mode) s = .next { s with result := some { result := .ok, outputs := .encoded bytes } } ∧
      ∀ (s' : State) (t : Word), s'.operands.buf = (if mode.ts then bytes ++ wr32 t else bytes) →
        ∃ u, exec (.decode mode) s' = .next u ∧
          u.result = some
            { result := .ok
              outputs := .decoded
                { echoId := s.operands.echoId, frame := s.operands.frame,
                  rawTs := if mode.ts then some t else none } }

/-- R138: a buffer that decodes without timestamp mode and whose reserved, unused and surplus bits are zero is what ENCODE gives
for the decoded echo id and frame, in any state. -/
def Obligations.EncodeInvertsDecode : Prop :=
  ∀ (mode : ChannelMode) (s t : State) (d : Decoded),
    mode.ts = false → s.operands.buf.length = 12 + (if mode.fd then 64 else 8) →
    exec (.decode mode) s = .next t → t.result = some { result := .ok, outputs := .decoded d } →
    s.operands.buf.getD 11 0 = 0 → (s.operands.buf.getD 10 0).toNat < 16 →
    (∀ i, d.frame.payload.length ≤ i → s.operands.buf.getD (12 + i) 0 = 0) →
      ∀ s' : State, s'.operands.echoId = d.echoId → s'.operands.frame = d.frame →
        exec (.encode mode) s' =
          .next { s' with result := some { result := .ok, outputs := .encoded s.operands.buf } }

/-! ### TimestampEngine -/

/-- TS_OBSERVE: the wrap rule, the epoch of a stale sample and the conversion formula, in integers (R150, R153, R154), and the
registers it writes (R155, R156). -/
def Obligations.ObserveClassifiesAndConverts : Prop :=
  ∀ s : State,
    let r := s.regs
    let raw := s.operands.raw.toNat
    let last := r.tsLastRaw.toNat
    let wrap := r.tsWrap.toNat
    let distance : Nat := (raw + 2 ^ 32 - last) % 2 ^ 32
    let time (e : Nat) : HostTime := BitVec.ofInt 64 (r.tsBaseHost.toInt + e * 2 ^ 32 + raw - r.tsZeroRaw.toNat)
    let ends (r' : Registers) (h : Option HostTime) : Prop :=
      exec .tsObserve s = .next { s with regs := r', result := some { result := .ok, outputs := .observed h } }
    if r.tsValid = false then ends r none
    else if distance < 2 ^ 31 ∨ (distance = 2 ^ 31 ∧ s.params.tieStale = false) then
      let w : Nat := if raw < last then (wrap + 1) % 2 ^ 32 else wrap
      ends { r with tsLastRaw := s.operands.raw, tsWrap := BitVec.ofNat 32 w } (some (time w))
    else
      let e : Nat := if raw ≤ last then wrap else (wrap + (2 ^ 32 - 1)) % 2 ^ 32
      ends r (some (time e))

/-- TS_RESYNC: anchor before the first sample, hard reset on a stale sample or too large a drift, else recalibrate so that the
sample converts to the host time (R157, R158, R159). -/
def Obligations.ResyncAnchorsRecalibratesOrHardResets : Prop :=
  ∀ s : State,
    let r := s.regs
    let raw := s.operands.raw.toNat
    let last := r.tsLastRaw.toNat
    let host := s.operands.hostNow.toInt
    let distance : Nat := (raw + 2 ^ 32 - last) % 2 ^ 32
    let w : Nat := if raw < last then (r.tsWrap.toNat + 1) % 2 ^ 32 else r.tsWrap.toNat
    let elapsed : Int := w * 2 ^ 32 + raw - r.tsZeroRaw.toNat
    let drifts : Bool :=
      match s.params.resyncMaxDriftUs with
      | none => false
      | some m => m.toNat < (Int.bmod (r.tsBaseHost.toInt + elapsed - host) (2 ^ 64)).natAbs
    let ends (r' : Registers) (status : ResyncStatus) : Prop :=
      exec .tsResync s = .next { s with regs := r', result := some { result := .ok, outputs := .resynced status } }
    let anchored : Registers :=
      { r with tsValid := true, tsZeroRaw := s.operands.raw, tsLastRaw := s.operands.raw, tsWrap := 0,
               tsBaseHost := s.operands.hostNow }
    if r.tsValid = false then ends anchored .anchored
    else if 2 ^ 31 < distance ∨ (distance = 2 ^ 31 ∧ s.params.tieStale = true) then ends anchored .hardReset
    else if drifts = true then ends anchored .hardReset
    else ends { r with tsWrap := BitVec.ofNat 32 w, tsLastRaw := s.operands.raw,
                       tsBaseHost := BitVec.ofInt 64 (host - elapsed) } .ok

/-- After any TS_RESYNC, whatever its status, the same sample converts to exactly the host time given with it, and observing it
changes no register (R157, R158). -/
def Obligations.ResyncSampleConvertsToItsHostTime : Prop :=
  ∀ s : State, ∃ t, exec .tsResync s = .next t ∧
    exec .tsObserve t =
      .next { t with result := some { result := .ok, outputs := .observed (some s.operands.hostNow) } }

/-- A sample behind TS_LAST_RAW by less than half the range converts to the newest sample's time less its lag, through the
current mapping, and changes no register (R154, R161). -/
def Obligations.LateSampleConvertsBehindTheNewest : Prop :=
  ∀ s : State, s.regs.tsValid = true →
    let lag : Nat := (s.regs.tsLastRaw.toNat + 2 ^ 32 - s.operands.raw.toNat) % 2 ^ 32
    0 < lag → lag < 2 ^ 31 →
      exec .tsObserve s = .next
        { s with
          result := some
            { result := .ok
              outputs := .observed (some (BitVec.ofInt 64
                (s.regs.tsBaseHost.toInt + s.regs.tsWrap.toNat * 2 ^ 32 + s.regs.tsLastRaw.toNat
                  - s.regs.tsZeroRaw.toNat - lag))) } }

/-- R160, the monotonicity law, over the machine's own steps: of an anchored engine, a sequence of TS_OBSERVE samples each less
than half the range ahead of the one before is accepted sample by sample; each time is the one before plus the distance; and
while they stay below 2^63 the times never fall, and rise where consecutive raws differ. The samples wait as the model's pending inputs (log entry 1). -/
def Obligations.CloseSamplesConvertMonotonically : Prop :=
  ∀ (s : State) (raws : List Word),
    s.regs.tsValid = true → SamplesClose s.regs.tsLastRaw raws → s.inputs = observeCommands raws →
      let start : HostTime := BitVec.ofInt 64
        (s.regs.tsBaseHost.toInt + s.regs.tsWrap.toNat * 2 ^ 32 + s.regs.tsLastRaw.toNat - s.regs.tsZeroRaw.toNat)
      let samples := s.regs.tsLastRaw :: raws
      let times := start :: advancingTimes start s.regs.tsLastRaw raws
      stepResults raws.length s =
        (advancingTimes start s.regs.tsLastRaw raws).map
          (fun h => some { result := .ok, outputs := .observed (some h) }) ∧
      (∀ k ≤ raws.length, ∃ t : State, runSteps k s = .next t ∧
        t.regs.tsLastRaw = samples.getD k 0 ∧ t.regs.tsValid = true ∧ t.regs.tsZeroRaw = s.regs.tsZeroRaw ∧
        t.regs.tsBaseHost = s.regs.tsBaseHost) ∧
      (start.toInt + totalDistance s.regs.tsLastRaw raws < 2 ^ 63 →
        times.Pairwise (fun a b => a.toInt ≤ b.toInt) ∧
        ∀ k < raws.length, samples.getD k 0 ≠ samples.getD (k + 1) 0 →
          (times.getD k 0).toInt < (times.getD (k + 1) 0).toInt)

/-! ### LinkStateMachine -/

/-- LSM_CONSUME of a recognized frame: the transition function of R186 with the counters of R183 and the levels of R184 and
R185, written out on the class bits, data[1], data[6] and data[7]; nothing else changes. -/
def Obligations.RecognizedFrameMovesTheLinkState : Prop :=
  ∀ s : State,
    let f := s.operands.frame
    let c := f.id.toNat % 2 ^ 29
    f.isError = true → f.payload.length = 8 → c ≠ 0 → c < 2 ^ 10 →
      let r := s.regs
      let status := (f.payload.getD 1 0).toNat
      let loads : Bool := c / 2 ^ 9 % 2 = 1 || !s.params.countersRequireCnt
      let tx := if loads then f.payload.getD 6 0 else r.lsmTxErr
      let rx := if loads then f.payload.getD 7 0 else r.lsmRxErr
      let worst := max tx.toNat rx.toNat
      let byStatus : List Nat :=
        if c / 2 ^ 2 % 2 = 1 then
          (if status / 16 % 4 ≠ 0 then [2] else if status / 4 % 4 ≠ 0 then [1] else if status / 64 % 2 = 1 then [0] else [])
        else []
      let byCounters : List Nat :=
        if loads then (if 127 < worst then [2] else if 96 < worst then [1] else [0]) else []
      let level : LinkState :=
        match (byStatus ++ byCounters).max? with
        | none => r.lsmState
        | some 0 => .errorActive
        | some 1 => .errorWarning
        | some _ => .errorPassive
      let ends (state : LinkState) (t' r' : BitVec 8) : Prop :=
        exec .lsmConsume s = .next
          { s with
            regs := { r with lsmState := state, lsmTxErr := t', lsmRxErr := r' }
            result := some { result := .ok, outputs := .none } }
      if c / 2 ^ 6 % 2 = 1 then ends .busOff tx rx
      else if r.lsmState = .stopped ∨ r.lsmState = .sleeping then ends r.lsmState r.lsmTxErr r.lsmRxErr
      else if c / 2 ^ 8 % 2 = 1 then ends .errorActive 0 0
      else if r.lsmState = .busOff then ends .busOff tx rx
      else ends level tx rx

/-- R255: a frame that matches no recognized pattern (R182) leaves every register, is reported, and its event is appended or
lost (R258). -/
def Obligations.UnrecognizedFrameOnlyReports : Prop :=
  ∀ s : State,
    let f := s.operands.frame
    let c := f.id.toNat % 2 ^ 29
    ¬ (f.isError = true ∧ f.payload.length = 8 ∧ c ≠ 0 ∧ c < 2 ^ 10) →
      ∃ events draws, (events = s.events ∨ events = s.events ++ [.unrecognizedErrorFrame]) ∧
        exec .lsmConsume s = .next
          { s with
            events := events
            eventDraws := draws
            result := some { result := .unrecognizedErrorFrame, outputs := .none } }

/-- R194: the source's three properties of the state machine, for a recognized frame of the class they name. -/
def Obligations.SourceLinkPropertiesHold : Prop :=
  ∀ s : State,
    let f := s.operands.frame
    let c := f.id.toNat % 2 ^ 29
    f.isError = true → f.payload.length = 8 → c < 2 ^ 10 →
      (s.regs.lsmState = .errorActive → c / 2 ^ 9 % 2 = 1 → c / 2 ^ 6 % 2 = 0 → c / 2 ^ 8 % 2 = 0 →
        f.payload.getD 6 0 = 200 →
        ∃ t, exec .lsmConsume s = .next t ∧ t.regs.lsmState = .errorPassive ∧ t.regs.lsmTxErr = 200) ∧
      (c / 2 ^ 6 % 2 = 1 → ∃ t, exec .lsmConsume s = .next t ∧ t.regs.lsmState = .busOff) ∧
      (s.regs.lsmState = .busOff → c / 2 ^ 6 % 2 = 0 → c / 2 ^ 8 % 2 = 1 →
        ∃ t, exec .lsmConsume s = .next t ∧ t.regs.lsmState = .errorActive ∧ t.regs.lsmTxErr = 0 ∧
          t.regs.lsmRxErr = 0)

/-- Of an error frame LSM_CONSUME reads the class bits, the low seven bits of data[1], data[6] and data[7] and nothing else: not
data[0], data[2] to data[5], bit 7 of data[1], the header overflow flag or any other field (R90, R193). -/
def Obligations.ConsumeReadsStatusAndCountersOnly : Prop :=
  ∀ (s : State) (g : CanFrame),
    let f := s.operands.frame
    f.isError = true → g.isError = true → f.payload.length = 8 → g.payload.length = 8 →
    g.id.toNat % 2 ^ 29 = f.id.toNat % 2 ^ 29 →
    (g.payload.getD 1 0).toNat % 128 = (f.payload.getD 1 0).toNat % 128 →
    g.payload.getD 6 0 = f.payload.getD 6 0 → g.payload.getD 7 0 = f.payload.getD 7 0 →
      ∃ t, exec .lsmConsume s = .next t ∧
        exec .lsmConsume { s with operands := { s.operands with frame := g } } =
          .next { t with operands := { s.operands with frame := g } }

/-- R192, over every command: BusOff is entered only by a recognized frame with the BUSOFF class bit, never from counters. -/
def Obligations.BusOffIsEnteredByTheClassBitOnly : Prop :=
  ∀ (i : Instr) (s t : State), exec i s = .next t → t.regs.lsmState = .busOff →
    s.regs.lsmState = .busOff ∨
    ∃ f, consumedFrame i s = some f ∧ f.isError = true ∧ f.payload.length = 8 ∧ f.id.toNat % 2 ^ 29 < 2 ^ 10 ∧
      f.id.toNat / 2 ^ 6 % 2 = 1

/-- Over every command: Stopped and Sleeping are left only by CHANNEL_START, LSM_STOP, LSM_SLEEP or a recognized BUSOFF frame,
and no other command moves the counters there (R186, R188, R189, R229; R269 does not count LSM_STOP, log entry 10). -/
def Obligations.StoppedAndSleepingAreLeftByCommandOrBusOff : Prop :=
  ∀ (i : Instr) (s t : State), s.regs.lsmState = .stopped ∨ s.regs.lsmState = .sleeping → exec i s = .next t →
    (t.regs.lsmState = s.regs.lsmState ∧ t.regs.lsmTxErr = s.regs.lsmTxErr ∧ t.regs.lsmRxErr = s.regs.lsmRxErr) ∨
    (i = .channelStart ∧ t.regs.lsmState = .errorActive) ∨ (i = .lsmStop ∧ t.regs.lsmState = .stopped) ∨
    (i = .lsmSleep ∧ t.regs.lsmState = .sleeping) ∨
    (t.regs.lsmState = .busOff ∧ ∃ f, consumedFrame i s = some f ∧ f.isError = true ∧ f.payload.length = 8 ∧
      f.id.toNat / 2 ^ 6 % 2 = 1)

/-- LSM_STOP and LSM_SLEEP enter their state from every state and keep the counters and everything else (R188, R189). -/
def Obligations.StopAndSleepWriteTheStateOnly : Prop :=
  ∀ s : State,
    exec .lsmStop s = .next
      { s with regs := { s.regs with lsmState := .stopped }, result := some { result := .ok, outputs := .none } } ∧
    exec .lsmSleep s = .next
      { s with regs := { s.regs with lsmState := .sleeping }, result := some { result := .ok, outputs := .none } }

/-- STATE_READ reads the three link-state registers at one instant, the state by its number (R22, R190). -/
def Obligations.StateReadGivesTheSnapshot : Prop :=
  ∀ s : State, ∃ state : BitVec 3,
    exec .stateRead s = .next
      { s with
        result := some { result := .ok, outputs := .snapshot state s.regs.lsmTxErr s.regs.lsmRxErr } } ∧
    state.toNat =
      match s.regs.lsmState with
      | .errorActive => 0
      | .errorWarning => 1
      | .errorPassive => 2
      | .busOff => 3
      | .stopped => 4
      | .sleeping => 5

/-! ### Control -/

/-- REG_READ follows the read map, zero-extended, and raises BAD_INDEX for every index from 9 on; nothing else changes (R32,
R230, R254). -/
def Obligations.RegReadFollowsTheReadMap : Prop :=
  ∀ (idx : BitVec 8) (s : State),
    let r := s.regs
    let value : Option Nat :=
      match idx.toNat with
      | 0 => some (match r.lsmState with
          | .errorActive => 0
          | .errorWarning => 1
          | .errorPassive => 2
          | .busOff => 3
          | .stopped => 4
          | .sleeping => 5)
      | 1 => some r.lsmTxErr.toNat
      | 2 => some r.lsmRxErr.toNat
      | 3 => some r.tsValid.toNat
      | 4 => some r.tsLastRaw.toNat
      | 5 => some r.tsZeroRaw.toNat
      | 6 => some (r.tsBaseHost.toNat % 2 ^ 32)
      | 7 => some (r.tsBaseHost.toNat / 2 ^ 32)
      | 8 => some r.tsWrap.toNat
      | _ => none
    match value with
    | some v => exec (.regRead idx) s =
        .next { s with result := some { result := .ok, outputs := .value (BitVec.ofNat 32 v) } }
    | none => exec (.regRead idx) s =
        .next { s with result := some { result := .illegalCommand .badIndex, outputs := .none } }

/-! ### INGEST -/

/-- INGEST of a buffer that DECODE rejects: reported with the same cause and discarded, the event appended or lost, no register
and no other port written (R220, R221, R256; the count of draws is the model's, log entry 4). -/
def Obligations.IngestDiscardsWhatDecodeRejects : Prop :=
  ∀ (mode : ChannelMode) (s : State) (k : MalformedCause),
    exec (.decode mode) s = .next { s with result := some { result := .malformedFrame k, outputs := .none } } →
      ∃ events, (events = s.events ∨ events = s.events ++ [.malformedFrame k]) ∧
        exec (.ingest mode) s = .next
          { s with
            events := events
            eventDraws := s.eventDraws + 1
            result := some { result := .malformedFrame k, outputs := .ingested .discarded } }

/-- INGEST of a buffer that decodes is DECODE, then TS_OBSERVE of its raw timestamp, then the RxOverflow event, then the routing:
LSM_CONSUME for an error frame with the RX sentinel, the data output for any other frame with it, the echo output for any other
echo id (R220, R222, R223, R224). Each part is what the command of that name does from the same state.
The count of draws and the frame output of DECODE are as the model has them (log entries 4, 13). -/
def Obligations.IngestIsDecodeObserveThenRoute : Prop :=
  ∀ (mode : ChannelMode) (s : State) (d : Decoded),
    s.operands.buf.length ≤ Config.maxBufLen → decodeFrame mode s.operands.buf = .ok d →
      exec (.decode mode) s = .next
        { s with frameOut := s.frameOut ++ [d.frame], result := some { result := .ok, outputs := .decoded d } } ∧
      ∃ (regs : Registers) (time : Option HostTime) (events : List Event) (draws : Nat),
        (match d.rawTs with
         | none => regs = s.regs ∧ time = none
         | some raw =>
           exec .tsObserve { s with operands := { s.operands with raw := raw } } = .next
             { s with operands := { s.operands with raw := raw }, regs := regs,
                      result := some { result := .ok, outputs := .observed time } }) ∧
        (if d.frame.overflowFlag = true then
           draws = s.eventDraws + 1 ∧ (events = s.events ∨ events = s.events ++ [.rxOverflow])
         else draws = s.eventDraws ∧ events = s.events) ∧
        let f : CanFrame := { d.frame with timestamp := time }
        let observed : State := { s with regs := regs, events := events, eventDraws := draws }
        if d.echoId = 0xFFFFFFFF ∧ f.isError = true then
          ∃ (t : State) (res : CommandResult),
            exec .lsmConsume { observed with operands := { s.operands with frame := f } } = .next t ∧
            t.result = some { result := res, outputs := .none } ∧
            exec (.ingest mode) s = .next
              { t with operands := s.operands, result := some { result := res, outputs := .ingested .error } }
        else if d.echoId = 0xFFFFFFFF then
          exec (.ingest mode) s = .next
            { observed with
              dataOut := s.dataOut ++ [f]
              result := some { result := .ok, outputs := .ingested (.data f) } }
        else
          exec (.ingest mode) s = .next
            { observed with
              echoOut := s.echoOut ++ [{ echoId := d.echoId, frame := f }]
              result := some { result := .ok, outputs := .ingested (.echo { echoId := d.echoId, frame := f }) } }

/-- INGEST of what ENCODE gives for a valid frame routes that frame: with a mode without timestamps, the same frame to the data
output or the echo output, or its error class to the state machine (R137, R220, R224). -/
def Obligations.IngestRoutesAnEncodedFrame : Prop :=
  ∀ (mode : ChannelMode) (s : State), mode.ts = false → ValidFor mode s.operands.frame →
    let f := s.operands.frame
    let e := s.operands.echoId
    ∃ bytes, exec (.encode mode) s = .next { s with result := some { result := .ok, outputs := .encoded bytes } } ∧
      ∃ t, exec (.ingest mode) { s with operands := { s.operands with buf := bytes } } = .next t ∧
        (e ≠ 0xFFFFFFFF → t.regs = s.regs ∧ t.dataOut = s.dataOut ∧ t.echoOut = s.echoOut ++ [{ echoId := e, frame := f }]) ∧
        (e = 0xFFFFFFFF → f.isError = false →
          t.regs = s.regs ∧ t.dataOut = s.dataOut ++ [f] ∧ t.echoOut = s.echoOut) ∧
        (e = 0xFFFFFFFF → f.isError = true → t.dataOut = s.dataOut ∧ t.echoOut = s.echoOut ∧
          ∃ u, exec .lsmConsume s = .next u ∧ t.regs = u.regs)

/-- The header overflow flag of a received frame never changes a register: two buffers that differ in that bit alone leave the
same registers after INGEST (R193, R223). -/
def Obligations.OverflowFlagNeverMovesARegister : Prop :=
  ∀ (mode : ChannelMode) (s : State) (other : List Byte),
    s.operands.buf.length ≤ Config.maxBufLen → other.length = s.operands.buf.length →
    (∀ i, i ≠ 10 → other.getD i 0 = s.operands.buf.getD i 0) →
    (other.getD 10 0).toNat / 2 = (s.operands.buf.getD 10 0).toNat / 2 →
      ∃ t t', exec (.ingest mode) s = .next t ∧
        exec (.ingest mode) { s with operands := { s.operands with buf := other } } = .next t' ∧ t'.regs = t.regs

/-! ### Events, ports and registers, over every command -/

/-- The events of a command enter the port in order, each appended or lost, none duplicated, reordered or invented, one draw an
event (R256, R257, R258; log entry 4). -/
def Obligations.EventPortKeepsAnOrderedPartOfWhatIsOffered : Prop :=
  ∀ (i : Instr) (s t : State), exec i s = .next t →
    ∃ kept : List Event, kept.Sublist (offeredEvents i s) ∧ t.events = s.events ++ kept ∧
      t.eventDraws = s.eventDraws + (offeredEvents i s).length ∧ (offeredEvents i s).length ≤ 2

/-- One output at most per command, appended after what stands there: INGEST alone writes the data and echo outputs and never
both, DECODE alone the frame output; no command reorders or drops what was delivered (R59, R225, R34; log entry 13). -/
def Obligations.OutputsAreAppendedInCommandOrder : Prop :=
  ∀ (i : Instr) (s t : State), exec i s = .next t →
    ∃ (data : List CanFrame) (echo : List EchoEntry) (frames : List CanFrame),
      t.dataOut = s.dataOut ++ data ∧ t.echoOut = s.echoOut ++ echo ∧ t.frameOut = s.frameOut ++ frames ∧
      data.length + echo.length + frames.length ≤ 1 ∧
      ((∀ mode, i ≠ .ingest mode) → data = [] ∧ echo = []) ∧ ((∀ mode, i ≠ .decode mode) → frames = [])

/-- Which commands write which registers, over every command (R33, R162, R23, R29): a register that changed was changed by one of
its writers; an ordinary resync and TS_OBSERVE never touch TS_ZERO_RAW or TS_VALID. -/
def Obligations.OnlyItsWritersChangeARegister : Prop :=
  ∀ (i : Instr) (s t : State), exec i s = .next t →
    let ingests : Prop := ∃ mode, i = .ingest mode
    (t.regs.lsmState ≠ s.regs.lsmState →
      i = .lsmConsume ∨ i = .lsmStop ∨ i = .lsmSleep ∨ i = .channelStart ∨ ingests) ∧
    (t.regs.lsmTxErr ≠ s.regs.lsmTxErr ∨ t.regs.lsmRxErr ≠ s.regs.lsmRxErr →
      i = .lsmConsume ∨ i = .channelStart ∨ ingests) ∧
    (t.regs.tsValid ≠ s.regs.tsValid ∨ t.regs.tsZeroRaw ≠ s.regs.tsZeroRaw ∨ t.regs.tsBaseHost ≠ s.regs.tsBaseHost →
      i = .tsResync ∨ i = .channelStart) ∧
    (t.regs.tsLastRaw ≠ s.regs.tsLastRaw ∨ t.regs.tsWrap ≠ s.regs.tsWrap →
      i = .tsObserve ∨ i = .tsResync ∨ i = .channelStart ∨ ingests)

/-! ### Invariants -/

/-- R281 as an invariant of every step: before the anchor the other timestamp registers are held at 0. -/
def Obligations.EveryStepHoldsUnanchoredRegistersAtZero : Prop :=
  ∀ s t : State, UnanchoredHeldAtZero s → step s = .next t → UnanchoredHeldAtZero t

/-- The state after reset holds the timestamp registers at 0 (R36, R281). -/
def Obligations.ResetHoldsUnanchoredRegistersAtZero : Prop :=
  UnanchoredHeldAtZero State.reset

/-- Every step keeps the output ports sound: every delivered frame has an id that fits its framing and a length with a code, data
frames are no error frames, echo entries carry no sentinel, DECODE's frames no timestamp (R11, R76, R83, R220, R224). -/
def Obligations.EveryStepKeepsThePortsSound : Prop :=
  ∀ s t : State, PortsSound s → step s = .next t → PortsSound t

/-- The ports are sound after reset: they are empty (R280). -/
def Obligations.ResetPortsAreSound : Prop :=
  PortsSound State.reset

/-! ### The frame operand -/

/-- The frame operand port carries every length from 0 to 127 bytes and no other, and ENCODE refuses every length above 64 that is
presented on it (R11, R95, R128). -/
def Obligations.FramePortCarriesUpTo127Bytes : Prop :=
  (∀ (f : CanFrame) (bytes : List Byte), bytes.length ≤ 127 →
    ∃ g, f.present bytes = some g ∧ g.payload = bytes ∧ (dataLength g).toNat = bytes.length) ∧
  (∀ (f : CanFrame) (bytes : List Byte), 127 < bytes.length → f.present bytes = none) ∧
  ∀ (mode : ChannelMode) (s : State), 64 < (dataLength s.operands.frame).toNat →
    ∃ k, exec (.encode mode) s = .next { s with result := some { result := .invalidFrame k, outputs := .none } }
end

