-- ==== Sys2Proof/Laws/PerInstr.lean ====
section
/-! SUPPORT. Facts about each command as syntax: its encoded word decodes to it, one lemma per constructor. -/

namespace Sys2Proof.Laws.RoundTrip

/-- The encoded word of a command decodes to that command. -/
def Statement (i : Instr) : Prop := Sys2Proof.decode (Sys2Proof.encode i) = .ok i

theorem decode (mode : ChannelMode) : Statement (.decode mode) := by
  obtain ⟨_ | _, _ | _⟩ := mode <;> rfl

theorem encode (mode : ChannelMode) : Statement (.encode mode) := by
  obtain ⟨_ | _, _ | _⟩ := mode <;> rfl

theorem ingest (mode : ChannelMode) : Statement (.ingest mode) := by
  obtain ⟨_ | _, _ | _⟩ := mode <;> rfl

theorem tsObserve : Statement .tsObserve := rfl

theorem tsResync : Statement .tsResync := rfl

theorem lsmConsume : Statement .lsmConsume := rfl

theorem lsmStop : Statement .lsmStop := rfl

theorem lsmSleep : Statement .lsmSleep := rfl

theorem channelStart : Statement .channelStart := rfl

theorem stateRead : Statement .stateRead := rfl

theorem regRead (idx : BitVec 8) : Statement (.regRead idx) := by
  unfold Statement
  revert idx
  decide

end Sys2Proof.Laws.RoundTrip
end

