-- ==== Sys2Proof/Laws/State.lean ====
section
/-! SUPPORT. What each shared operation leaves in each field of State, one lemma per field per operation, so that no later proof unfolds a record update. -/

namespace Sys2Proof.Machine

variable (s : State)

/-! ### State.emit -/

@[simp] theorem State.emit_regs (e : Event) : (s.emit e).regs = s.regs := rfl
@[simp] theorem State.emit_operands (e : Event) : (s.emit e).operands = s.operands := rfl
@[simp] theorem State.emit_result (e : Event) : (s.emit e).result = s.result := rfl
@[simp] theorem State.emit_events (e : Event) : (s.emit e).events = if Config.eventDrop s.eventDraws then s.events else s.events ++ [e] := rfl
@[simp] theorem State.emit_dataOut (e : Event) : (s.emit e).dataOut = s.dataOut := rfl
@[simp] theorem State.emit_echoOut (e : Event) : (s.emit e).echoOut = s.echoOut := rfl
@[simp] theorem State.emit_frameOut (e : Event) : (s.emit e).frameOut = s.frameOut := rfl
@[simp] theorem State.emit_params (e : Event) : (s.emit e).params = s.params := rfl
@[simp] theorem State.emit_eventDraws (e : Event) : (s.emit e).eventDraws = s.eventDraws + 1 := rfl
@[simp] theorem State.emit_inputs (e : Event) : (s.emit e).inputs = s.inputs := rfl

/-! ### State.deliver -/

@[simp] theorem State.deliver_regs (f : CanFrame) : (s.deliver f).regs = s.regs := rfl
@[simp] theorem State.deliver_operands (f : CanFrame) : (s.deliver f).operands = s.operands := rfl
@[simp] theorem State.deliver_result (f : CanFrame) : (s.deliver f).result = s.result := rfl
@[simp] theorem State.deliver_events (f : CanFrame) : (s.deliver f).events = s.events := rfl
@[simp] theorem State.deliver_dataOut (f : CanFrame) : (s.deliver f).dataOut = s.dataOut ++ [f] := rfl
@[simp] theorem State.deliver_echoOut (f : CanFrame) : (s.deliver f).echoOut = s.echoOut := rfl
@[simp] theorem State.deliver_frameOut (f : CanFrame) : (s.deliver f).frameOut = s.frameOut := rfl
@[simp] theorem State.deliver_params (f : CanFrame) : (s.deliver f).params = s.params := rfl
@[simp] theorem State.deliver_eventDraws (f : CanFrame) : (s.deliver f).eventDraws = s.eventDraws := rfl
@[simp] theorem State.deliver_inputs (f : CanFrame) : (s.deliver f).inputs = s.inputs := rfl

/-! ### State.echo -/

@[simp] theorem State.echo_regs (e : EchoEntry) : (s.echo e).regs = s.regs := rfl
@[simp] theorem State.echo_operands (e : EchoEntry) : (s.echo e).operands = s.operands := rfl
@[simp] theorem State.echo_result (e : EchoEntry) : (s.echo e).result = s.result := rfl
@[simp] theorem State.echo_events (e : EchoEntry) : (s.echo e).events = s.events := rfl
@[simp] theorem State.echo_dataOut (e : EchoEntry) : (s.echo e).dataOut = s.dataOut := rfl
@[simp] theorem State.echo_echoOut (e : EchoEntry) : (s.echo e).echoOut = s.echoOut ++ [e] := rfl
@[simp] theorem State.echo_frameOut (e : EchoEntry) : (s.echo e).frameOut = s.frameOut := rfl
@[simp] theorem State.echo_params (e : EchoEntry) : (s.echo e).params = s.params := rfl
@[simp] theorem State.echo_eventDraws (e : EchoEntry) : (s.echo e).eventDraws = s.eventDraws := rfl
@[simp] theorem State.echo_inputs (e : EchoEntry) : (s.echo e).inputs = s.inputs := rfl

/-! ### State.putFrame -/

@[simp] theorem State.putFrame_regs (f : CanFrame) : (s.putFrame f).regs = s.regs := rfl
@[simp] theorem State.putFrame_operands (f : CanFrame) : (s.putFrame f).operands = s.operands := rfl
@[simp] theorem State.putFrame_result (f : CanFrame) : (s.putFrame f).result = s.result := rfl
@[simp] theorem State.putFrame_events (f : CanFrame) : (s.putFrame f).events = s.events := rfl
@[simp] theorem State.putFrame_dataOut (f : CanFrame) : (s.putFrame f).dataOut = s.dataOut := rfl
@[simp] theorem State.putFrame_echoOut (f : CanFrame) : (s.putFrame f).echoOut = s.echoOut := rfl
@[simp] theorem State.putFrame_frameOut (f : CanFrame) : (s.putFrame f).frameOut = s.frameOut ++ [f] := rfl
@[simp] theorem State.putFrame_params (f : CanFrame) : (s.putFrame f).params = s.params := rfl
@[simp] theorem State.putFrame_eventDraws (f : CanFrame) : (s.putFrame f).eventDraws = s.eventDraws := rfl
@[simp] theorem State.putFrame_inputs (f : CanFrame) : (s.putFrame f).inputs = s.inputs := rfl

/-! ### State.finish -/

@[simp] theorem State.finish_regs (r : CommandResult) (o : Outputs) : (s.finish r o).regs = s.regs := rfl
@[simp] theorem State.finish_operands (r : CommandResult) (o : Outputs) : (s.finish r o).operands = s.operands := rfl
@[simp] theorem State.finish_result (r : CommandResult) (o : Outputs) : (s.finish r o).result = some { result := r, outputs := o } := rfl
@[simp] theorem State.finish_events (r : CommandResult) (o : Outputs) : (s.finish r o).events = s.events := rfl
@[simp] theorem State.finish_dataOut (r : CommandResult) (o : Outputs) : (s.finish r o).dataOut = s.dataOut := rfl
@[simp] theorem State.finish_echoOut (r : CommandResult) (o : Outputs) : (s.finish r o).echoOut = s.echoOut := rfl
@[simp] theorem State.finish_frameOut (r : CommandResult) (o : Outputs) : (s.finish r o).frameOut = s.frameOut := rfl
@[simp] theorem State.finish_params (r : CommandResult) (o : Outputs) : (s.finish r o).params = s.params := rfl
@[simp] theorem State.finish_eventDraws (r : CommandResult) (o : Outputs) : (s.finish r o).eventDraws = s.eventDraws := rfl
@[simp] theorem State.finish_inputs (r : CommandResult) (o : Outputs) : (s.finish r o).inputs = s.inputs := rfl

/-! ### State.raise -/

@[simp] theorem State.raise_regs (r : CommandResult) : (s.raise r).regs = s.regs := rfl
@[simp] theorem State.raise_operands (r : CommandResult) : (s.raise r).operands = s.operands := rfl
@[simp] theorem State.raise_result (r : CommandResult) : (s.raise r).result = some { result := r, outputs := .none } := rfl
@[simp] theorem State.raise_events (r : CommandResult) : (s.raise r).events = s.events := rfl
@[simp] theorem State.raise_dataOut (r : CommandResult) : (s.raise r).dataOut = s.dataOut := rfl
@[simp] theorem State.raise_echoOut (r : CommandResult) : (s.raise r).echoOut = s.echoOut := rfl
@[simp] theorem State.raise_frameOut (r : CommandResult) : (s.raise r).frameOut = s.frameOut := rfl
@[simp] theorem State.raise_params (r : CommandResult) : (s.raise r).params = s.params := rfl
@[simp] theorem State.raise_eventDraws (r : CommandResult) : (s.raise r).eventDraws = s.eventDraws := rfl
@[simp] theorem State.raise_inputs (r : CommandResult) : (s.raise r).inputs = s.inputs := rfl

/-! ### State.latch -/

@[simp] theorem State.latch_regs (ops : Operands) : (s.latch ops).regs = s.regs := rfl
@[simp] theorem State.latch_operands (ops : Operands) : (s.latch ops).operands = ops := rfl
@[simp] theorem State.latch_result (ops : Operands) : (s.latch ops).result = s.result := rfl
@[simp] theorem State.latch_events (ops : Operands) : (s.latch ops).events = s.events := rfl
@[simp] theorem State.latch_dataOut (ops : Operands) : (s.latch ops).dataOut = s.dataOut := rfl
@[simp] theorem State.latch_echoOut (ops : Operands) : (s.latch ops).echoOut = s.echoOut := rfl
@[simp] theorem State.latch_frameOut (ops : Operands) : (s.latch ops).frameOut = s.frameOut := rfl
@[simp] theorem State.latch_params (ops : Operands) : (s.latch ops).params = s.params := rfl
@[simp] theorem State.latch_eventDraws (ops : Operands) : (s.latch ops).eventDraws = s.eventDraws := rfl
@[simp] theorem State.latch_inputs (ops : Operands) : (s.latch ops).inputs = s.inputs := rfl

end Sys2Proof.Machine
end

