-- ==== Sys2Proof/Laws/Shared.lean ====
section
/-! SUPPORT. One lemma per shared operation that says once everything it can do; proofs cite these instead of unfolding. -/

namespace Sys2Proof.Machine

/-! ### The event port -/

/-- An offered event is appended or lost; the draw is counted either way (R258). -/
theorem State.emit_cases (s : State) (e : Event) :
    s.emit e = { s with eventDraws := s.eventDraws + 1 } ∨
    s.emit e = { s with events := s.events ++ [e], eventDraws := s.eventDraws + 1 } := by
  unfold State.emit
  split
  · exact .inl rfl
  · exact .inr rfl

/-! ### The buffer operand -/

/-- A command with a buffer answers its next state exactly when the buffer is not too long (R52). -/
theorem State.withBuffer_eq_next {s k t : State} :
    s.withBuffer k = .next t ↔ s.operands.bufferFits ∧ t = k := by
  unfold State.withBuffer
  split <;> simp_all [eq_comm]

/-- A command with a buffer that fits goes on. -/
theorem State.withBuffer_of_fits {s k : State} (h : s.operands.bufferFits) : s.withBuffer k = .next k := if_pos h

/-! ### FrameCodec -/

/-- The 7-bit data length is the length of the payload (R11, R95). -/
@[simp] theorem dataLength_toNat (f : CanFrame) : (dataLength f).toNat = f.payload.length := rfl

/-- The data length of a code in the table (R83, R84). -/
theorem dlc2len_cases {fd : Bool} {code : Nat} {n : BitVec 7} (h : dlc2len fd code = some n) :
    (code ≤ 8 ∧ n.toNat = code) ∨
    (fd = true ∧ 9 ≤ code ∧ code ≤ 15 ∧ [12, 16, 20, 24, 32, 48, 64][code - 9]? = some n) := by
  unfold dlc2len at h
  split at h
  · cases h
    exact .inl ⟨‹_›, by rw [BitVec.toNat_ofNat]; omega⟩
  · split at h
    · have := (List.getElem?_eq_some_iff.1 h).1
      simp at this
      exact .inr ⟨‹_›, by omega, by omega, h⟩
    · cases h

/-- Everything a successful body of DECODE says: the checks passed and the outputs' values (R110). -/
theorem decodeBody_ok {mode : ChannelMode} {buf : List Byte} {dl : BitVec 7} {d : Decoded}
    (h : decodeBody mode buf dl = .ok d) :
    dl.toNat ≤ buf.length - headerLength ∧ (mode.ts = true → timestampOffset mode + 4 ≤ buf.length) ∧
    canIdTooWide (idWord buf) = false ∧
    d = { echoId := rd32 buf 0, frame := frameOf buf dl,
          rawTs := if mode.ts then some (rd32 buf (timestampOffset mode)) else none } := by
  unfold decodeBody at h
  split at h
  · cases h
  · split at h
    · cases h
    · split at h
      · cases h
      · refine ⟨by omega, fun hts => ?_, by simp_all, by cases h; rfl⟩
        simp_all

/-- Everything a successful DECODE says (R110). -/
theorem decodeFrame_ok {mode : ChannelMode} {buf : List Byte} {d : Decoded} (h : decodeFrame mode buf = .ok d) :
    headerLength ≤ buf.length ∧ dlcCode buf ≤ 15 ∧
    (flagFd (flagsOf buf) = true → mode.fd = true) ∧
    ∃ dl, dlc2len (flagFd (flagsOf buf)) (dlcCode buf) = some dl ∧ decodeBody mode buf dl = .ok d := by
  unfold decodeFrame at h
  split at h
  · cases h
  · split at h
    · cases h
    · split at h
      · cases h
      · split at h
        · cases h
        · refine ⟨by omega, by omega, fun hf => ?_, _, ‹_›, h⟩
          simp_all

/-- Everything ENCODE can answer (R125, R253). -/
theorem encodeFrame_cases (mode : ChannelMode) (e : Word) (f : CanFrame) :
    (f.isFD = true ∧ mode.fd = false ∧ encodeFrame mode e f = .error .fdNotEnabled) ∨
    ((f.isFD = true → mode.fd = true) ∧ len2dlc f.isFD (dataLength f) = none ∧
      encodeFrame mode e f = .error .badLength) ∨
    ((f.isFD = true → mode.fd = true) ∧ ∃ code, len2dlc f.isFD (dataLength f) = some code ∧
      encodeFrame mode e f = .ok (frameBytes mode e f code)) := by
  unfold encodeFrame
  split
  · exact .inl ⟨by simp_all, by simp_all, rfl⟩
  · have hfd : f.isFD = true → mode.fd = true := fun h => by simp_all
    cases hc : len2dlc f.isFD (dataLength f) with
    | none => exact .inr (.inl ⟨hfd, rfl, rfl⟩)
    | some code => exact .inr (.inr ⟨hfd, code, rfl, rfl⟩)

/-! ### TimestampEngine -/

/-- Everything TS_OBSERVE can do to the registers (R155, R156). -/
theorem observe_cases (p : Params) (r : Registers) (raw : Word) :
    (r.tsValid = false ∧ observe p r raw = (r, none)) ∨
    (r.tsValid = true ∧ classify p r raw = .advance ∧
      observe p r raw = ({ r with tsWrap := advanceEpoch r raw, tsLastRaw := raw },
        some (conv r (advanceEpoch r raw) raw))) ∨
    (r.tsValid = true ∧ classify p r raw = .stale ∧
      observe p r raw = (r, some (conv r (staleEpoch r raw) raw))) := by
  unfold observe
  cases hv : r.tsValid
  · exact .inl ⟨rfl, by simp⟩
  · cases hc : classify p r raw
    · exact .inr (.inl ⟨rfl, rfl, by simp⟩)
    · exact .inr (.inr ⟨rfl, rfl, by simp⟩)

/-- TS_OBSERVE writes TS_LAST_RAW and TS_WRAP only (R33). -/
theorem observe_frame (p : Params) (r : Registers) (raw : Word) :
    (observe p r raw).1 = { r with tsWrap := (observe p r raw).1.tsWrap, tsLastRaw := (observe p r raw).1.tsLastRaw } := by
  rcases observe_cases p r raw with ⟨_, h⟩ | ⟨_, _, h⟩ | ⟨_, _, h⟩ <;> simp [h]

/-- Everything TS_RESYNC can do to the registers (R158). -/
theorem resync_cases (p : Params) (r : Registers) (raw : Word) (hostNow : HostTime) :
    (r.tsValid = false ∧ resync p r raw hostNow = (anchor r raw hostNow, .anchored)) ∨
    (r.tsValid = true ∧
      (classify p r raw = .stale ∨
        classify p r raw = .advance ∧ driftTooLarge p (conv r (advanceEpoch r raw) raw) hostNow = true) ∧
      resync p r raw hostNow = (anchor r raw hostNow, .hardReset)) ∨
    (r.tsValid = true ∧ classify p r raw = .advance ∧
      driftTooLarge p (conv r (advanceEpoch r raw) raw) hostNow = false ∧
      resync p r raw hostNow = (recalibrate r raw hostNow, .ok)) := by
  unfold resync
  cases hv : r.tsValid
  · exact .inl ⟨rfl, by simp⟩
  · cases hc : classify p r raw
    · cases hd : driftTooLarge p (conv r (advanceEpoch r raw) raw) hostNow
      · exact .inr (.inr ⟨rfl, rfl, rfl, by simp⟩)
      · exact .inr (.inl ⟨rfl, .inr ⟨rfl, rfl⟩, by simp⟩)
    · exact .inr (.inl ⟨rfl, .inl rfl, by simp⟩)

/-- TS_RESYNC writes no link-state register (R33). -/
theorem resync_link (p : Params) (r : Registers) (raw : Word) (hostNow : HostTime) :
    (resync p r raw hostNow).1.lsmState = r.lsmState ∧ (resync p r raw hostNow).1.lsmTxErr = r.lsmTxErr ∧
    (resync p r raw hostNow).1.lsmRxErr = r.lsmRxErr := by
  rcases resync_cases p r raw hostNow with ⟨_, h⟩ | ⟨_, _, h⟩ | ⟨_, _, _, h⟩ <;> simp [h, anchor, recalibrate]

/-! ### LinkStateMachine -/

/-- The link-state machine writes the three link-state registers only (R33). -/
theorem lsmNext_frame (p : Params) (f : CanFrame) (r : Registers) :
    lsmNext p f r = setLink r (lsmNext p f r).lsmState (lsmNext p f r).lsmTxErr (lsmNext p f r).lsmRxErr := by
  unfold lsmNext
  repeat' split
  all_goals simp [setLink]

/-- A level is no bus-off, stopped or sleeping state (R181, R192). -/
theorem levelState_ne_busOff (l : Level) : levelState l ≠ .busOff := by cases l <;> decide

/-- The evidence of an error frame never leaves the levels (R192). -/
theorem levelNext_cases (p : Params) (f : CanFrame) (r : Registers) :
    levelNext p f r = r.lsmState ∨ ∃ l, levelNext p f r = levelState l := by
  unfold levelNext
  split
  · exact .inl rfl
  · exact .inr ⟨_, rfl⟩

/-- Feeding a frame either moves the link-state registers or only offers an event (R187, R255). -/
theorem State.consume_cases (s : State) (f : CanFrame) :
    (recognized f = true ∧ s.consume f = { s with regs := lsmNext s.params f s.regs } ∧ consumeResult f = .ok) ∨
    (recognized f = false ∧ s.consume f = s.emit .unrecognizedErrorFrame ∧
      consumeResult f = .unrecognizedErrorFrame) := by
  unfold State.consume consumeResult
  cases h : recognized f
  · exact .inr ⟨rfl, by simp, by simp⟩
  · exact .inl ⟨rfl, by simp, by simp⟩

/-! ### INGEST -/

/-- Everything routing can do with a frame (R220, R224). -/
theorem State.route_cases (s : State) (echoId : Word) (f : CanFrame) :
    (echoId = rxSentinel ∧ f.isError = true ∧
      s.route echoId f = (s.consume f).finish (consumeResult f) (.ingested .error)) ∨
    (echoId = rxSentinel ∧ f.isError = false ∧
      s.route echoId f = (s.deliver f).finish .ok (.ingested (.data f))) ∨
    (echoId ≠ rxSentinel ∧
      s.route echoId f = (s.echo { echoId := echoId, frame := f }).finish .ok
        (.ingested (.echo { echoId := echoId, frame := f }))) := by
  unfold State.route
  by_cases he : echoId = rxSentinel
  · cases hf : f.isError
    · exact .inr (.inl ⟨he, rfl, by simp [he]⟩)
    · exact .inl ⟨he, rfl, by simp [he]⟩
  · exact .inr (.inr ⟨he, by simp [he]⟩)

/-- Observing a decoded frame is TS_OBSERVE of its raw timestamp, or nothing (R222). -/
theorem observeDecoded_cases (p : Params) (r : Registers) (d : Decoded) :
    (d.rawTs = none ∧ observeDecoded p r d = (r, none)) ∨
    ∃ t, d.rawTs = some t ∧ observeDecoded p r d = observe p r t := by
  unfold observeDecoded
  cases h : d.rawTs with
  | none => exact .inl ⟨rfl, rfl⟩
  | some t => exact .inr ⟨t, rfl, rfl⟩

/-- The overflow signal offers one event or nothing, and changes no register (R223). -/
theorem State.signalOverflow_cases (s : State) (f : CanFrame) :
    (f.overflowFlag = true ∧ s.signalOverflow f = s.emit .rxOverflow) ∨
    (f.overflowFlag = false ∧ s.signalOverflow f = s) := by
  unfold State.signalOverflow
  cases h : f.overflowFlag
  · exact .inr ⟨rfl, by simp⟩
  · exact .inl ⟨rfl, by simp⟩

/-! ### Commands with a buffer -/

/-- DECODE of a buffer that fits answers a next state (R52, R110). -/
theorem exec_decode_of_fits {mode : ChannelMode} {s : State} (h : s.operands.bufferFits) :
    exec (.decode mode) s = .next
      (match decodeFrame mode s.operands.buf with
       | .ok d => (s.putFrame d.frame).finish .ok (.decoded d)
       | .error k => s.raise (.malformedFrame k)) := State.withBuffer_of_fits h

/-- INGEST of a buffer that fits answers a next state (R52, R220). -/
theorem exec_ingest_of_fits {mode : ChannelMode} {s : State} (h : s.operands.bufferFits) :
    exec (.ingest mode) s = .next
      (match decodeFrame mode s.operands.buf with
       | .ok d => s.ingestDecoded d
       | .error k => s.ingestMalformed k) := State.withBuffer_of_fits h

end Sys2Proof.Machine
end

