-- ==== Sys2Proof/Machine/Assembler.lean ====
section
/-! DEFINITION. The assembler spelling of a command (spec/30_encoding.md R97): `MNEMONIC[.fd][.ts] operand=value, ...`. There are no pseudo-instructions. -/

namespace Sys2Proof.Machine

/-- The mnemonic of a command, as the opcode table has it (R92). -/
def mnemonic : Instr → String
  | .decode _ => "DECODE"
  | .encode _ => "ENCODE"
  | .ingest _ => "INGEST"
  | .tsObserve => "TS_OBSERVE"
  | .tsResync => "TS_RESYNC"
  | .lsmConsume => "LSM_CONSUME"
  | .lsmStop => "LSM_STOP"
  | .lsmSleep => "LSM_SLEEP"
  | .channelStart => "CHANNEL_START"
  | .stateRead => "STATE_READ"
  | .regRead _ => "REG_READ"

/-- The suffixes of a channel mode: `.fd` for word bit 4, `.ts` for word bit 5 (R97). -/
def modeSuffix (mode : ChannelMode) : String := (if mode.fd then ".fd" else "") ++ (if mode.ts then ".ts" else "")

/-- The mnemonic with its suffixes. -/
def asmHead (i : Instr) : String :=
  match i with
  | .decode mode | .encode mode | .ingest mode => mnemonic i ++ modeSuffix mode
  | _ => mnemonic i

/-- One hexadecimal digit. -/
def hexDigit (n : Nat) : Char := "0123456789ABCDEF".toList.getD n '0'

/-- The hexadecimal digits of a number, at least `fuel` of them. -/
def hexDigits : Nat → Nat → List Char
  | 0, _ => []
  | fuel + 1, n => hexDigits fuel (n / 16) ++ [hexDigit (n % 16)]

/-- Bytes as two hexadecimal digits each, byte 0 first. -/
def hexBytes (bs : List Byte) : String := String.ofList (bs.flatMap fun b => hexDigits 2 b.toNat)

/-- `0x` and eight digits. -/
def hexWord (w : Word) : String := "0x" ++ String.ofList (hexDigits 8 w.toNat)

/-- A flag as 0 or 1. -/
def asmFlag (name : String) (b : Bool) : String := name ++ "=" ++ (if b then "1" else "0")

/-- The frame operand, every flag written out (an omitted one would be 0, R97). The braces are the characters 123 and 125. -/
def asmFrame (f : CanFrame) : String :=
  String.ofList [Char.ofNat 123]
    ++ ", ".intercalate
        ["id=" ++ hexWord f.id, asmFlag "ext" f.isExtended, asmFlag "rtr" f.isRemote, asmFlag "err" f.isError,
         asmFlag "fd" f.isFD, asmFlag "brs" f.bitrateSwitch, asmFlag "esi" f.errorStateIndicator,
         asmFlag "ovf" f.overflowFlag, "ch=" ++ f.channel.toNat.repr, "len=" ++ (dataLength f).toNat.repr,
         "data=" ++ hexBytes f.payload]
    ++ String.ofList [Char.ofNat 125]

/-- The operands a command is written with (R97). -/
def asmOperands (i : Instr) (o : Operands) : List String :=
  match i with
  | .decode _ | .ingest _ => ["buf=" ++ hexBytes o.buf]
  | .encode _ => ["echo=" ++ o.echoId.toNat.repr, "frame=" ++ asmFrame o.frame]
  | .tsObserve => ["raw=" ++ hexWord o.raw]
  | .tsResync => ["raw=" ++ hexWord o.raw, "host=" ++ toString o.hostNow.toInt]
  | .lsmConsume => ["frame=" ++ asmFrame o.frame]
  | .regRead idx => ["idx=" ++ idx.toNat.repr]
  | .lsmStop | .lsmSleep | .channelStart | .stateRead => []

/-- A command as it is written: head, a space, and its operands, or the head alone when it has none (R97). -/
def asm (i : Instr) (o : Operands) : String :=
  match asmOperands i o with
  | [] => asmHead i
  | operands => asmHead i ++ " " ++ ", ".intercalate operands

end Sys2Proof.Machine
end

