-- ==== Sys2Proof/Tests/Slice0.lean ====
section
/-! SUPPORT. Tests: ill-formed operands refused, words written out from the encoding tables, the vectors of spec/95_test_vectors.md (named W, E, D, T, L, I, C there), and for every statement with hypotheses a witness that meets them. Expected values come from the spec's vectors or from its rules by hand. -/

namespace Sys2Proof.Tests

open Sys2Proof Sys2Proof.Machine Sys2Proof.Safety

/-! ### Small values -/

/-- Registers with the link state and the counters given, the rest at reset. -/
def link (state : LinkState) (tx rx : Byte) : Registers := setLink Registers.reset state tx rx

/-- Registers of an anchored engine. -/
def anchored (last zero : Word) (base : HostTime) (wrap : Word) : Registers :=
  { Registers.reset with tsValid := true, tsLastRaw := last, tsZeroRaw := zero, tsBaseHost := base, tsWrap := wrap }

/-- The reset state with registers and operands given. -/
def at' (regs : Registers) (ops : Operands) : State := { State.reset with regs := regs, operands := ops }

/-- The reset state with registers, operands and parameters given. -/
def under (p : Params) (regs : Registers) (ops : Operands) : State := { at' regs ops with params := p }

/-- The reset state with host inputs pending. -/
def pending (inputs : List HostInput) : State := { State.reset with inputs := inputs }

def withBuf (buf : List Byte) : Operands := { idleOperands with buf := buf }
def withRaw (raw : Word) : Operands := { idleOperands with raw := raw }
def withSample (raw : Word) (host : HostTime) : Operands := { idleOperands with raw := raw, hostNow := host }
def withFrame (f : CanFrame) : Operands := { idleOperands with frame := f }
def withEcho (e : Word) (f : CanFrame) : Operands := { idleOperands with echoId := e, frame := f }

def standard (id : Word) (payload : List Byte) (fits : payloadFitsPort payload := by decide) : CanFrame :=
  { idleOperands.frame with id := id, payload := payload, payloadFits := fits }
def errorFrame (cls : Word) (payload : List Byte) (fits : payloadFitsPort payload := by decide) : CanFrame :=
  { standard cls payload fits with isError := true }
def fdFrame (id : Word) (payload : List Byte) (fits : payloadFitsPort payload := by decide) : CanFrame :=
  { standard id payload fits with isFD := true }

/-- A payload of 8 bytes with controller status and counters given. -/
def status8 (status tx rx : Byte) : List Byte := [0, status, 0, 0, 0, 0, tx, rx]

def classic : ChannelMode := { fd := false, ts := false }
def classicTs : ChannelMode := { fd := false, ts := true }
def fdMode : ChannelMode := { fd := true, ts := false }
def fdTs : ChannelMode := { fd := true, ts := true }

def eightAA : List Byte := List.replicate 8 0xAA
def zeros (n : Nat) : List Byte := List.replicate n 0

/-- A received standard data frame's echo id and can id bytes: the sentinel, id 0x123. -/
def rx123 : List Byte := [0xFF, 0xFF, 0xFF, 0xFF, 0x23, 0x01, 0x00, 0x00]

/-- The buffer of vector I1 (source example W3): class 0x204, data[1] = 0x20, data[6] = 128. -/
def bufI1 : List Byte :=
  [0xFF, 0xFF, 0xFF, 0xFF, 0x04, 0x02, 0x00, 0x20, 8, 0, 0, 0, 0x00, 0x20, 0x00, 0x00, 0x00, 0x00, 0x80, 0x00]

/-- The buffer of vector I4: as I1 with echo id 7. -/
def bufI4 : List Byte :=
  [0x07, 0x00, 0x00, 0x00, 0x04, 0x02, 0x00, 0x20, 8, 0, 0, 0, 0x00, 0x20, 0x00, 0x00, 0x00, 0x00, 0x80, 0x00]

/-- The buffer of vector I2: a data frame with the overflow flag. -/
def bufI2 : List Byte := rx123 ++ [8, 0, 1, 0] ++ eightAA

/-- The buffer of vector I3: BUSOFF with the overflow flag. -/
def bufI3 : List Byte := [0xFF, 0xFF, 0xFF, 0xFF, 0x40, 0x00, 0x00, 0x20, 8, 0, 1, 0] ++ zeros 8

/-- A short buffer fits the port, whatever `P_MAX_BUF_LEN` is (R52: at least 80). -/
theorem fits {n : Nat} (h : n ≤ 80) : n ≤ Config.maxBufLen := Nat.le_trans h (Nat.le_add_left 80 _)

/-! ### WellFormed smoke: each check refuses an ill-formed term -/

theorem test_unassigned_index_is_ill_formed :
    (Instr.regRead 9).wellFormed = false ∧ (Instr.regRead 0xFF).wellFormed = false ∧ (Instr.regRead 8).wellFormed = true := by
  decide

/-- R95: 128 bytes cannot be presented as a frame operand, 127 can. -/
theorem test_payload_of_128_bytes_is_no_frame (f : CanFrame) :
    f.present (zeros 128) = none ∧ (f.present (zeros 127)).isSome = true := by
  simp [CanFrame.present, payloadFitsPort, zeros]

theorem test_buffer_past_the_maximum_does_not_fit :
    ¬ (withBuf (zeros (Config.maxBufLen + 1))).bufferFits := by
  simp [Operands.bufferFits, withBuf, zeros]

theorem test_buffer_past_the_maximum_is_refused (mode : ChannelMode) :
    exec (.decode mode) (at' Registers.reset (withBuf (zeros (Config.maxBufLen + 1)))) = .refused .bufferTooLong ∧
    exec (.ingest mode) (at' Registers.reset (withBuf (zeros (Config.maxBufLen + 1)))) = .refused .bufferTooLong :=
  ⟨if_neg test_buffer_past_the_maximum_does_not_fit, if_neg test_buffer_past_the_maximum_does_not_fit⟩

/-! ### Words, written out from R91 and R92 (95_test_vectors.md, conventions) -/

theorem test_mode_words :
    decode 0x01 = .ok (.decode classic) ∧ decode 0x11 = .ok (.decode fdMode) ∧ decode 0x21 = .ok (.decode classicTs) ∧
    decode 0x31 = .ok (.decode fdTs) ∧ decode 0x02 = .ok (.encode classic) ∧ decode 0x12 = .ok (.encode fdMode) ∧
    decode 0x03 = .ok (.ingest classic) ∧ decode 0x23 = .ok (.ingest classicTs) ∧ decode 0x33 = .ok (.ingest fdTs) := by
  decide

theorem test_plain_words :
    decode 0b0000_0100 = .ok .tsObserve ∧ decode 0b0000_0101 = .ok .tsResync ∧ decode 0b0000_0110 = .ok .lsmConsume ∧
    decode 0b0000_0111 = .ok .lsmStop ∧ decode 0b0000_1000 = .ok .lsmSleep ∧ decode 0b0000_1001 = .ok .channelStart ∧
    decode 0b0000_1010 = .ok .stateRead := by decide

theorem test_regread_words :
    decode 0x0000000B = .ok (.regRead 0) ∧ decode 0x0000080B = .ok (.regRead 8) ∧ decode 0x0000FF0B = .ok (.regRead 255) := by
  decide

theorem test_encoded_words :
    encode (.ingest fdTs) = 0x33 ∧ encode (.encode fdMode) = 0x12 ∧ encode .channelStart = 0x09 ∧
    encode (.regRead 8) = 0x0000080B := by decide

/-- C5 to C11. -/
theorem test_illegal_words :
    decode 0x00000000 = .error .badOpcode ∧ decode 0x0000000C = .error .badOpcode ∧ decode 0x0000000F = .error .badOpcode ∧
    decode 0xFFFFFFFF = .error .badOpcode ∧ decode 0x00000016 = .error .reservedBits ∧
    decode 0x00000109 = .error .reservedBits ∧ decode 0x00000043 = .error .reservedBits ∧
    decode 0x0001000B = .error .reservedBits := by decide

theorem test_table_words_decode :
    decodeTableWord 32 0x23 = some (.ingest classicTs) ∧ decodeTableWord 32 0x80B = some (.regRead 8) ∧
    decodeTableWord 8 0x04 = some .tsObserve ∧ decodeTableWord 32 0x16 = none := by decide

/-- The examples of R97. -/
theorem test_asm_spellings :
    asm .tsObserve (withRaw 0x10) = "TS_OBSERVE raw=0x00000010" ∧ asm (.regRead 8) idleOperands = "REG_READ idx=8" ∧
    asm (.ingest classicTs) (withBuf [0xAB, 0x01]) = "INGEST.ts buf=AB01" ∧ asm .lsmStop idleOperands = "LSM_STOP" := by
  decide

/-! ### The step -/

theorem test_fetched_word_runs :
    step (State.reset.withFetchWord 32 0x0000000A) =
      exec .stateRead { State.reset with operands := idleOperands } := rfl

/-- After reset the buffer port is empty, so DECODE and INGEST run and report SHORT_HEADER. -/
theorem test_fetched_decode_and_ingest_run :
    (∃ t, step (State.reset.withFetchWord 32 0x01) = .next t ∧
      t.result = some { result := .malformedFrame .shortHeader, outputs := .none }) ∧
    ∃ t, step (State.reset.withFetchWord 32 0x33) = .next t ∧
      t.result = some { result := .malformedFrame .shortHeader, outputs := .ingested .discarded } :=
  ⟨⟨_, rfl, rfl⟩, ⟨_, rfl, rfl⟩⟩

theorem test_illegal_word_ends_with_its_cause :
    step (pending [.command 0x00000016 idleOperands]) =
      .next (State.reset.finish (.illegalCommand .reservedBits) .none) := rfl

/-! ### DECODE (D1 to D21) -/

theorem test_decode_rejections :
    decodeFrame classic (rx123 ++ [8, 0, 0]) = .error .shortHeader ∧
    decodeFrame fdMode (rx123 ++ [16, 0, 2, 0] ++ zeros 64) = .error .badDlc ∧
    decodeFrame classic (rx123 ++ [8, 0, 2, 0]) = .error .fdNotEnabled ∧
    decodeFrame classic (rx123 ++ [9, 0, 0, 0] ++ zeros 8) = .error .badDlc ∧
    decodeFrame classic (rx123 ++ [8, 0, 0, 0] ++ List.replicate 7 0xAA) = .error .shortPayload ∧
    decodeFrame classicTs (rx123 ++ [8, 0, 0, 0] ++ eightAA ++ [0x78, 0x56, 0x34]) = .error .shortTimestamp ∧
    decodeFrame classic ([0xFF, 0xFF, 0xFF, 0xFF, 0x00, 0x08, 0x00, 0x00] ++ zeros 4) = .error .badId := by decide

theorem test_decode_frames :
    decodeFrame classic (rx123 ++ zeros 4) = .ok { echoId := 0xFFFFFFFF, frame := standard 0x123 [], rawTs := none } ∧
    decodeFrame classic [0xFF, 0xFF, 0xFF, 0xFF, 0xFF, 0xFF, 0xFF, 0x9F, 0, 0, 0, 0] =
      .ok { echoId := 0xFFFFFFFF, frame := { standard 0x1FFFFFFF [] with isExtended := true }, rawTs := none } ∧
    decodeFrame classic (rx123 ++ [4, 3, 0xF1, 0, 0xDE, 0xAD, 0xBE, 0xEF, 0xFF, 0xFF, 0xFF, 0xFF, 0x99]) =
      .ok { echoId := 0xFFFFFFFF,
            frame := { standard 0x123 [0xDE, 0xAD, 0xBE, 0xEF] with channel := 3, overflowFlag := true }, rawTs := none } ∧
    decodeFrame classicTs (rx123 ++ [2, 0, 0, 0, 1, 2, 0, 0, 0, 0, 0, 0, 0x78, 0x56, 0x34, 0x12]) =
      .ok { echoId := 0xFFFFFFFF, frame := standard 0x123 [1, 2], rawTs := some 0x12345678 } ∧
    decodeFrame fdTs (rx123 ++ [2, 0, 0, 0, 1, 2] ++ zeros 62 ++ [0x78, 0x56, 0x34, 0x12]) =
      .ok { echoId := 0xFFFFFFFF, frame := standard 0x123 [1, 2], rawTs := some 0x12345678 } ∧
    decodeFrame fdMode ([5, 0, 0, 0, 0x23, 0x01, 0x00, 0x40] ++ zeros 68) =
      .ok { echoId := 5, frame := { standard 0x123 [] with isRemote := true }, rawTs := none } := by decide

/-! ### ENCODE (E1 to E14) -/

theorem test_encode_bytes :
    encodeFrame classic 1 (standard 0x123 eightAA) = .ok ([1, 0, 0, 0, 0x23, 0x01, 0, 0, 8, 0, 0, 0] ++ eightAA) ∧
    encodeFrame classic 7 { standard 0x1ABCDEF0 [1, 2] with isExtended := true } =
      .ok ([7, 0, 0, 0, 0xF0, 0xDE, 0xBC, 0x9A, 2, 0, 0, 0, 1, 2] ++ zeros 6) ∧
    encodeFrame classic 0 (standard 0xFFF []) = .ok ([0, 0, 0, 0, 0xFF, 0x07, 0, 0, 0, 0, 0, 0] ++ zeros 8) ∧
    encodeFrame classic 5 { standard 0x7FF [] with isRemote := true } =
      .ok ([5, 0, 0, 0, 0xFF, 0x07, 0x00, 0x40, 0, 0, 0, 0] ++ zeros 8) ∧
    encodeFrame fdMode 0xFFFFFFFF { fdFrame 0x18DAF110 (List.replicate 64 0x5A) with
        isExtended := true, errorStateIndicator := true } =
      .ok ([0xFF, 0xFF, 0xFF, 0xFF, 0x10, 0xF1, 0xDA, 0x98, 0x0F, 0, 0x0A, 0] ++ List.replicate 64 0x5A) ∧
    encodeFrame classic 9 { standard 0x100 [0xFF] with overflowFlag := true, channel := 1 } =
      .ok ([9, 0, 0, 0, 0, 1, 0, 0, 1, 1, 1, 0, 0xFF] ++ zeros 7) := by decide

theorem test_encode_rejections :
    encodeFrame classic 2 (fdFrame 0x10 (zeros 8)) = .error .fdNotEnabled ∧
    encodeFrame classic 2 (standard 0x10 (zeros 9)) = .error .badLength ∧
    encodeFrame fdMode 2 (fdFrame 0x10 (zeros 13)) = .error .badLength ∧
    encodeFrame fdMode 0 (fdFrame 1 (zeros 65)) = .error .badLength := by decide

/-- R95, R128: the longest payload that can be presented is refused. -/
theorem test_encode_rejects_127_bytes :
    encodeFrame fdMode 0 (fdFrame 1 (List.replicate 127 0) (by simp [payloadFitsPort])) = .error .badLength := by
  simp [encodeFrame, fdMode, fdFrame, standard, len2dlc]

/-! ### TS_OBSERVE and TS_RESYNC (T1 to T18) -/

/-- T1, T3, T4, T5, T8, T11. -/
theorem test_observe :
    observe Params.default Registers.reset 0x100 = (Registers.reset, none) ∧
    observe Params.default (anchored 0xFFFFFF00 0xFFFFFF00 1000000 0) 0xFFFFFF80 =
      (anchored 0xFFFFFF80 0xFFFFFF00 1000000 0, some 1000128) ∧
    observe Params.default (anchored 0xFFFFFF80 0xFFFFFF00 1000000 0) 0x10 =
      (anchored 0x10 0xFFFFFF00 1000000 1, some 1000272) ∧
    observe Params.default (anchored 0x10 0xFFFFFF00 1000000 1) 0xFFFFFFF0 =
      (anchored 0x10 0xFFFFFF00 1000000 1, some 1000240) ∧
    observe Params.default (anchored 0x20 0xFFFFFF00 1000000 1) 0x7FFFFFFF =
      (anchored 0x7FFFFFFF 0xFFFFFF00 1000000 1, some 2148483903) ∧
    observe Params.default (anchored 0 0 0 0) 0x80000001 = (anchored 0 0 0 0, some (BitVec.ofInt 64 (-2147483647))) := by
  decide

/-- T9 and T10: the tie follows `P_TIE_STALE`. -/
theorem test_observe_tie :
    observe Params.default (anchored 0 0 0 0) 0x80000000 = (anchored 0 0 0 0, some (BitVec.ofInt 64 (-2147483648))) ∧
    observe { Params.default with tieStale := false } (anchored 0 0 0 0) 0x80000000 =
      (anchored 0x80000000 0 0 0, some 2147483648) := by decide

/-- T2, T13, T14, T15, T18. -/
theorem test_resync :
    resync Params.default Registers.reset 0xFFFFFF00 1000000 = (anchored 0xFFFFFF00 0xFFFFFF00 1000000 0, .anchored) ∧
    resync Params.default (anchored 0 0 0 0) 1000 1005 = (anchored 1000 0 5 0, .ok) ∧
    resync Params.default (anchored 5000 0 0 0) 4000 9999 = (anchored 4000 4000 9999 0, .hardReset) ∧
    resync Params.default (anchored 0xFFFFFF00 0xFFFFFF00 1000000 0) 0x100 1000600 =
      (anchored 0x100 0xFFFFFF00 1000088 1, .ok) ∧
    resync Params.default (anchored 0 0 0 0) 1000 900 = (anchored 1000 0 (BitVec.ofInt 64 (-100)) 0, .ok) := by decide

/-- T16 and T17: the drift limit is inclusive. -/
theorem test_resync_drift :
    resync { Params.default with resyncMaxDriftUs := some 100 } (anchored 0 0 0 0) 1000 1100 =
      (anchored 1000 0 100 0, .ok) ∧
    resync { Params.default with resyncMaxDriftUs := some 100 } (anchored 0 0 0 0) 1000 1101 =
      (anchored 1000 1000 1101 0, .hardReset) := by decide

/-! ### LSM_CONSUME, LSM_STOP, LSM_SLEEP, STATE_READ (L1 to L33) -/

/-- L1, L5 to L10, L12 to L14, L19, L26. -/
theorem test_levels :
    lsmNext Params.default (errorFrame 0x204 (status8 0x20 128 0)) (link .errorActive 0 0) = link .errorPassive 128 0 ∧
    lsmNext Params.default (errorFrame 0x200 (status8 0 96 96)) (link .errorActive 0 0) = link .errorActive 96 96 ∧
    lsmNext Params.default (errorFrame 0x200 (status8 0 97 0)) (link .errorActive 0 0) = link .errorWarning 97 0 ∧
    lsmNext Params.default (errorFrame 0x200 (status8 0 0 127)) (link .errorActive 0 0) = link .errorWarning 0 127 ∧
    lsmNext Params.default (errorFrame 0x200 (status8 0 0 128)) (link .errorActive 0 0) = link .errorPassive 0 128 ∧
    lsmNext Params.default (errorFrame 0x200 (status8 0 50 0)) (link .errorPassive 130 0) = link .errorActive 50 0 ∧
    lsmNext Params.default (errorFrame 0x004 (status8 0x40 0 0)) (link .errorPassive 130 0) = link .errorActive 130 0 ∧
    lsmNext Params.default (errorFrame 0x004 (status8 0x01 0 0)) (link .errorWarning 100 0) = link .errorWarning 100 0 ∧
    lsmNext Params.default (errorFrame 0x204 (status8 0x04 130 0)) (link .errorActive 0 0) = link .errorPassive 130 0 ∧
    lsmNext Params.default (errorFrame 0x204 (status8 0x10 10 0)) (link .errorActive 0 0) = link .errorPassive 10 0 ∧
    lsmNext Params.default (errorFrame 0x008 (status8 0 200 200)) (link .errorWarning 100 5) = link .errorWarning 100 5 ∧
    lsmNext { Params.default with countersRequireCnt := false } (errorFrame 0x008 (status8 0 120 0))
      (link .errorActive 0 0) = link .errorWarning 120 0 := by decide

/-- L3, L4, L20 to L25, L28, L29. -/
theorem test_bus_off_and_recovery :
    lsmNext Params.default (errorFrame 0x040 (zeros 8)) (link .errorActive 10 20) = link .busOff 10 20 ∧
    lsmNext Params.default (errorFrame 0x100 (zeros 8)) (link .busOff 255 130) = link .errorActive 0 0 ∧
    lsmNext Params.default (errorFrame 0x140 (zeros 8)) (link .errorActive 0 0) = link .busOff 0 0 ∧
    lsmNext Params.default (errorFrame 0x204 (status8 0x20 200 0)) (link .stopped 1 2) = link .stopped 1 2 ∧
    lsmNext Params.default (errorFrame 0x100 (zeros 8)) (link .stopped 1 2) = link .stopped 1 2 ∧
    lsmNext Params.default (errorFrame 0x204 (status8 0x40 0 0)) (link .busOff 255 0) = link .busOff 0 0 ∧
    lsmNext Params.default (errorFrame 0x100 (zeros 8)) (link .errorPassive 130 4) = link .errorActive 0 0 ∧
    lsmNext Params.default (errorFrame 0x240 (status8 0 248 3)) (link .errorActive 0 0) = link .busOff 248 3 ∧
    lsmNext Params.default (errorFrame 0x200 (status8 0 255 255)) (link .errorActive 0 0) = link .errorPassive 255 255 ∧
    lsmNext Params.default (errorFrame 0x040 (zeros 8)) (link .sleeping 0 0) = link .busOff 0 0 := by decide

/-- L15 to L18. -/
theorem test_unrecognized_frames :
    recognized (errorFrame 0x000 (zeros 8)) = false ∧ recognized (errorFrame 0x440 (zeros 8)) = false ∧
    recognized (errorFrame 0x040 (zeros 7)) = false ∧ recognized (standard 0x040 (zeros 8)) = false ∧
    recognized (errorFrame 0x3FF (zeros 8)) = true := by decide

/-- L30 and L32. -/
theorem test_stop :
    execLsmStop (at' (link .busOff 200 0) idleOperands) =
      .next ((at' (link .stopped 200 0) idleOperands).finish .ok .none) ∧
    execLsmStop (at' (link .sleeping 100 0) idleOperands) =
      .next ((at' (link .stopped 100 0) idleOperands).finish .ok .none) :=
  ⟨rfl, rfl⟩

/-- L31. -/
theorem test_sleep :
    execLsmSleep (at' (link .errorWarning 100 0) idleOperands) =
      .next ((at' (link .sleeping 100 0) idleOperands).finish .ok .none) := rfl

/-- L33. -/
theorem test_state_read :
    execStateRead (at' (link .errorPassive 130 7) idleOperands) =
      .next ((at' (link .errorPassive 130 7) idleOperands).finish .ok (.snapshot 2 130 7)) := rfl

/-! ### INGEST (I1 to I9); the event port depends on the free draw, so the other fields are tested -/

/-- I1 (source example W3). -/
theorem test_ingest_error_frame :
    ∃ t, exec (.ingest classic) (at' Registers.reset (withBuf bufI1)) = .next t ∧ t.regs = link .errorPassive 128 0 ∧
      t.result = some { result := .ok, outputs := .ingested .error } ∧ t.dataOut = [] ∧ t.echoOut = [] ∧ t.events = [] :=
  ⟨_, exec_ingest_of_fits (fits (by decide)), rfl, rfl, rfl, rfl, rfl⟩

/-- I3: the overflow event is offered before the frame is consumed. -/
theorem test_ingest_bus_off_with_overflow :
    ∃ t, exec (.ingest classic) (at' Registers.reset (withBuf bufI3)) = .next t ∧ t.regs = link .busOff 0 0 ∧
      t.result = some { result := .ok, outputs := .ingested .error } ∧ t.eventDraws = 1 :=
  ⟨_, exec_ingest_of_fits (fits (by decide)), rfl, rfl, rfl⟩

/-! ### CHANNEL_START and REG_READ (C1 to C4) -/

theorem test_channel_start :
    execChannelStart (at' { link .sleeping 3 0 with tsValid := true, tsWrap := 3 } idleOperands) =
      .next ((at' Registers.reset idleOperands).finish .ok .none) := rfl

/-- C2, C3, C4 and T19. -/
theorem test_register_map :
    registerAt (link .errorPassive 0 0) 0 = some 2 ∧ registerAt (anchored 0 0 0 1) 8 = some 1 ∧
    registerAt Registers.reset 9 = none ∧ registerAt (anchored 5 5 (BitVec.ofInt 64 (-1)) 0) 6 = some 0xFFFFFFFF ∧
    registerAt (anchored 5 5 (BitVec.ofInt 64 (-1)) 0) 7 = some 0xFFFFFFFF ∧ registerAt (anchored 5 6 0 0) 5 = some 6 := by
  decide

/-! ### Witnesses: for each statement with hypotheses, values that meet all of them together, each clause at a boundary -/

theorem witness_OpcodeTableRowsSelectTheirCommands :
    (0x00000000 : Word).toNat % 16 = 0 ∧ 12 ≤ (0xFFFFFF0C : Word).toNat % 16 ∧ 12 ≤ (0x0000000F : Word).toNat % 16 := by
  decide

theorem witness_ModeBitsAreTheChannelMode :
    decode 0x21 = .ok (.decode classicTs) ∧ decode 0x12 = .ok (.encode fdMode) ∧ decode 0x33 = .ok (.ingest fdTs) := by
  decide

/-- One word for each clause: reserved ops at both ends, each reserved field on the lowest and highest op it is reserved for, and
legal words on ops 1 and 11. -/
theorem witness_IllegalWordsRaiseAndWriteNothing (w : Word) :
    (pending [.command w idleOperands]).inputs = .command w idleOperands :: [] ∧
    (0x10 : Word).toNat % 16 = 0 ∧ 12 ≤ (0x0C : Word).toNat % 16 ∧ 12 ≤ (0x1F : Word).toNat % 16 ∧
    (0x10001 : Word).toNat / 2 ^ 16 ≠ 0 ∧ (0x4B : Word).toNat / 2 ^ 6 % 4 ≠ 0 ∧
    (0x10A : Word).toNat % 16 ≠ 0xB ∧ (0x10A : Word).toNat / 2 ^ 8 % 256 ≠ 0 ∧
    3 < (0x14 : Word).toNat % 16 ∧ (0x14 : Word).toNat / 2 ^ 4 % 4 ≠ 0 ∧
    decode 0xFF0B = .ok (.regRead 0xFF) ∧ decode 0x31 = .ok (.decode fdTs) := by
  refine ⟨rfl, ?_⟩
  decide

theorem witness_StepRunsTheDecodedCommand :
    (pending [.command 0x80B idleOperands]).inputs = .command 0x80B idleOperands :: [] ∧ decode 0x80B = .ok (.regRead 8) :=
  ⟨rfl, rfl⟩

/-- A state with an entry on every port. -/
def filled (inputs : List HostInput) : State :=
  { pending inputs with events := [.rxOverflow], dataOut := [standard 1 []], frameOut := [standard 2 []],
                        echoOut := [{ echoId := 3, frame := standard 4 [] }] }

theorem witness_HostActionsBetweenCommands (port : OutPort) :
    (filled []).inputs = [] ∧ (filled [.take port]).inputs = .take port :: [] ∧
    (filled [.take port]).events = .rxOverflow :: [] ∧ (filled [.take port]).dataOut = standard 1 [] :: [] ∧
    (filled [.take port]).echoOut = { echoId := 3, frame := standard 4 [] } :: [] ∧
    (filled [.take port]).frameOut = standard 2 [] :: [] ∧ (filled [.powerOn]).inputs = .powerOn :: [] :=
  ⟨rfl, rfl, rfl, rfl, rfl, rfl, rfl⟩

theorem witness_StepKeepsParametersAndTakesOneInput :
    ∃ t, step (pending [.command 0x06 (withFrame (errorFrame 0 (zeros 8)))]) = .next t := ⟨_, rfl⟩

/-- The buffers of test_decode_rejections and test_decode_frames, which reach each clause, fit the port. -/
theorem witness_DecodeReportsFirstFailureOrFrame :
    (at' Registers.reset (withBuf (rx123 ++ [8, 0, 0]))).operands.buf.length ≤ Config.maxBufLen ∧
    (at' Registers.reset (withBuf (rx123 ++ [16, 0, 2, 0] ++ zeros 64))).operands.buf.length ≤ Config.maxBufLen ∧
    (at' Registers.reset (withBuf (rx123 ++ [2, 0, 0, 0, 1, 2] ++ zeros 62 ++ zeros 4))).operands.buf.length ≤
      Config.maxBufLen :=
  ⟨fits (by decide), fits (by decide), fits (by decide)⟩

theorem witness_ReservedHeaderBitsNeverAffectAResult :
    (rx123 ++ [0, 0, 0x01, 0x00]).length ≤ Config.maxBufLen ∧
    (rx123 ++ [0, 0, 0xF1, 0x7F]).length = (rx123 ++ [0, 0, 0x01, 0x00]).length ∧
    (∀ i, i ≠ 10 → i ≠ 11 → (rx123 ++ [0, 0, 0xF1, 0x7F]).getD i 0 = (rx123 ++ [0, 0, 0x01, 0x00]).getD i 0) ∧
    ((rx123 ++ [0, 0, 0xF1, 0x7F]).getD 10 0).toNat % 16 = ((rx123 ++ [0, 0, 0x01, 0x00]).getD 10 0).toNat % 16 ∧
    ∃ t bytes, exec (.encode classic) (at' Registers.reset (withEcho 1 (standard 0x123 eightAA))) = .next t ∧
      t.result = some { result := .ok, outputs := .encoded bytes } := by
  refine ⟨fits (by decide), rfl, ?_, by decide, _, _, rfl, rfl⟩
  intro i h10 h11
  by_cases h : i < 12
  · have : ∀ j : Fin 12, j.val ≠ 10 → j.val ≠ 11 →
        (rx123 ++ [0, 0, 0xF1, 0x7F]).getD j.val 0 = (rx123 ++ [0, 0, 0x01, 0x00]).getD j.val 0 := by decide
    exact this ⟨i, h⟩ h10 h11
  · have len : ∀ l : List Byte, l.length = 12 → l.getD i 0 = 0 := fun l hl =>
      List.getD_eq_default _ _ (by omega)
    rw [len _ rfl, len _ rfl]

/-- Modes of the shortest and the longest layout. -/
theorem witness_BytesPastTheLayoutAreIgnored :
    ((rx123 ++ [4, 3, 0xF1, 0] ++ zeros 8) ++ [0x99]).length ≤ Config.maxBufLen ∧
    12 + (if classic.fd then 64 else 8) + (if classic.ts then 4 else 0) ≤ (rx123 ++ [4, 3, 0xF1, 0] ++ zeros 8).length ∧
    ((rx123 ++ zeros 72) ++ []).length ≤ Config.maxBufLen ∧
    12 + (if fdTs.fd then 64 else 8) + (if fdTs.ts then 4 else 0) ≤ (rx123 ++ zeros 72).length :=
  ⟨fits (by decide), by decide, fits (by decide), by decide⟩

theorem witness_DecodeDependsOnItsBufferAlone :
    (at' Registers.reset (withBuf bufI1)).operands.buf.length ≤ Config.maxBufLen ∧
    (at' (anchored 1 2 3 4) (withBuf bufI1)).operands.buf = (at' Registers.reset (withBuf bufI1)).operands.buf :=
  ⟨fits (by decide), rfl⟩

/-- Each clause of ENCODE: FD on a classic channel, lengths beside the table's, and the last length of each table. -/
theorem witness_EncodeReportsFirstFailureOrBytes :
    (len2dlc false 8 = some 8 ∧ len2dlc false 9 = none ∧ len2dlc false 12 = none) ∧
    (len2dlc true 9 = none ∧ len2dlc true 12 = some 9 ∧ len2dlc true 64 = some 15 ∧ len2dlc true 65 = none) ∧
    (fdFrame 1 []).isFD = true ∧ classic.fd = false := by decide

/-- The longest payload the port carries, the first it does not, and lengths 65 and 127 presented to ENCODE. -/
theorem witness_FramePortCarriesUpTo127Bytes :
    (zeros 127).length ≤ 127 ∧ 127 < (zeros 128).length ∧
    64 < (dataLength (fdFrame 1 (zeros 65))).toNat ∧
    64 < (dataLength (standard 1 (zeros 127) (by simp [payloadFitsPort, zeros]))).toNat := by
  simp [zeros, fdFrame, standard]

/-- E3 and D12. -/
theorem witness_IdsAreMaskedOnEncodeAndRejectedOnDecode :
    (∃ t bytes, exec (.encode classic) (at' Registers.reset (withEcho 0 (standard 0xFFF []))) = .next t ∧
      t.result = some { result := .ok, outputs := .encoded bytes }) ∧
    ([0xFF, 0xFF, 0xFF, 0xFF, 0x00, 0x08, 0x00, 0x00] ++ zeros 4).length ≤ Config.maxBufLen ∧
    (0x00000800 : Nat) / 2 ^ 31 = 0 ∧ (0x00000800 : Nat) % 2 ^ 29 / 2 ^ 11 ≠ 0 :=
  ⟨⟨_, _, rfl, rfl⟩, fits (by decide), by decide, by decide⟩

/-- The widest ids of both framings, the longest payloads of both kinds, and both forms of the buffer. -/
theorem witness_DecodeInvertsEncode :
    ValidFor classic (standard 0x7FF eightAA) ∧
    ValidFor fdTs { fdFrame 0x1FFFFFFF (List.replicate 64 0x5A) with isExtended := true } ∧
    (withBuf (eightAA ++ wr32 7)).buf = (if fdTs.ts then eightAA ++ wr32 7 else eightAA) := by decide

theorem witness_EncodeInvertsDecode :
    ∃ t d, exec (.decode classic) (at' Registers.reset (withBuf (rx123 ++ [8, 0, 0x0D, 0] ++ eightAA))) = .next t ∧
      t.result = some { result := .ok, outputs := .decoded d } ∧ classic.ts = false ∧
      (rx123 ++ [8, 0, 0x0D, 0] ++ eightAA).length = 12 + (if classic.fd then 64 else 8) ∧
      (rx123 ++ [8, 0, 0x0D, 0] ++ eightAA).getD 11 0 = 0 ∧
      ((rx123 ++ [8, 0, 0x0D, 0] ++ eightAA).getD 10 0).toNat < 16 ∧
      (∀ i, d.frame.payload.length ≤ i → (rx123 ++ [8, 0, 0x0D, 0] ++ eightAA).getD (12 + i) 0 = 0) ∧
      (withEcho d.echoId d.frame).echoId = d.echoId ∧ (withEcho d.echoId d.frame).frame = d.frame := by
  refine ⟨_, _, exec_decode_of_fits (fits (by decide)), rfl, rfl, rfl, rfl, by decide, ?_, rfl, rfl⟩
  intro i hi
  have hi' : 8 ≤ i := hi
  have hl : (rx123 ++ [8, 0, 0x0D, 0] ++ eightAA).length = 20 := rfl
  exact List.getD_eq_default _ _ (by omega)

/-- Lags of 1 and of one less than half the range. -/
theorem witness_LateSampleConvertsBehindTheNewest :
    (anchored 0x10 0xFFFFFF00 1000000 1).tsValid = true ∧
    ((0x10 : Word).toNat + 2 ^ 32 - (0x0F : Word).toNat) % 2 ^ 32 = 1 ∧
    ((0x10 : Word).toNat + 2 ^ 32 - (0x80000011 : Word).toNat) % 2 ^ 32 = 2 ^ 31 - 1 := by decide

/-- T2 to T4, with a repeated sample and the largest forward distance. -/
theorem witness_CloseSamplesConvertMonotonically :
    (anchored 0xFFFFFF00 0xFFFFFF00 1000000 0).tsValid = true ∧
    SamplesClose (anchored 0xFFFFFF00 0xFFFFFF00 1000000 0).tsLastRaw [0xFFFFFF80, 0x10, 0x10, 0x8000000F] ∧
    (pending (observeCommands [0xFFFFFF80, 0x10, 0x10, 0x8000000F])).inputs =
      observeCommands [0xFFFFFF80, 0x10, 0x10, 0x8000000F] ∧
    (1000000 : Int) + totalDistance 0xFFFFFF00 [0xFFFFFF80, 0x10, 0x10, 0x8000000F] < 2 ^ 63 :=
  ⟨rfl, by simp only [SamplesClose]; decide, rfl, by decide⟩

/-- Frames of every arm: the largest and smallest class bits, BUSOFF, RESTARTED, CRTL, CNT; test_levels and
test_bus_off_and_recovery reach the arms from every state. -/
theorem witness_RecognizedFrameMovesTheLinkState :
    ∀ cls ∈ ([0x001, 0x3FF, 0x040, 0x100, 0x004, 0x200] : List Nat),
      (errorFrame (BitVec.ofNat 32 cls) (zeros 8)).isError = true ∧
      (errorFrame (BitVec.ofNat 32 cls) (zeros 8)).payload.length = 8 ∧
      (errorFrame (BitVec.ofNat 32 cls) (zeros 8)).id = BitVec.ofNat 32 cls ∧
      cls % 2 ^ 29 ≠ 0 ∧ cls % 2 ^ 29 < 2 ^ 10 := fun cls h => ⟨rfl, rfl, rfl, by revert cls; decide⟩

/-- Each way not to match: no class bit, an undefined class bit, seven bytes, no error flag. -/
theorem witness_UnrecognizedFrameOnlyReports :
    ∀ f ∈ [errorFrame 0 (zeros 8), errorFrame 0x400 (zeros 8), errorFrame 0x040 (zeros 7), standard 0x040 (zeros 8)],
      ¬ (f.isError = true ∧ f.payload.length = 8 ∧ f.id.toNat % 2 ^ 29 ≠ 0 ∧ f.id.toNat % 2 ^ 29 < 2 ^ 10) := by decide

/-- W4, W5, W6: CNT with tx 200 (alone and with controller status), BUSOFF with RESTARTED, RESTARTED. -/
theorem witness_SourceLinkPropertiesHold :
    (∀ cls ∈ ([0x200, 0x204] : List Nat), cls / 2 ^ 9 % 2 = 1 ∧ cls / 2 ^ 6 % 2 = 0 ∧ cls / 2 ^ 8 % 2 = 0 ∧ cls < 2 ^ 10) ∧
    (status8 0 200 0).getD 6 0 = 200 ∧ (link .errorActive 0 0).lsmState = .errorActive ∧
    (0x140 : Nat) / 2 ^ 6 % 2 = 1 ∧ (link .busOff 255 130).lsmState = .busOff ∧
    (0x100 : Nat) / 2 ^ 6 % 2 = 0 ∧ (0x100 : Nat) / 2 ^ 8 % 2 = 1 := by decide

theorem witness_ConsumeReadsStatusAndCountersOnly :
    let f := errorFrame 0x204 (status8 0x20 128 0)
    let g := { errorFrame 0x204 [9, 0xA0, 9, 9, 9, 9, 128, 0] with overflowFlag := true, channel := 7 }
    f ≠ g ∧ f.isError = true ∧ g.isError = true ∧ f.payload.length = 8 ∧ g.payload.length = 8 ∧
    g.id.toNat % 2 ^ 29 = f.id.toNat % 2 ^ 29 ∧
    (g.payload.getD 1 0).toNat % 128 = (f.payload.getD 1 0).toNat % 128 ∧
    g.payload.getD 6 0 = f.payload.getD 6 0 ∧ g.payload.getD 7 0 = f.payload.getD 7 0 := by decide

theorem witness_BusOffIsEnteredByTheClassBitOnly :
    ∃ t, exec .lsmConsume (at' (link .errorActive 10 20) (withFrame (errorFrame 0x040 (zeros 8)))) = .next t ∧
      t.regs.lsmState = .busOff := ⟨_, rfl, rfl⟩

theorem witness_StoppedAndSleepingAreLeftByCommandOrBusOff :
    (link .stopped 1 2).lsmState = .stopped ∧ (link .sleeping 0 0).lsmState = .sleeping ∧
    (∃ t, exec .channelStart (at' (link .stopped 1 2) idleOperands) = .next t ∧ t.regs.lsmState = .errorActive) ∧
    (∃ t, exec .lsmStop (at' (link .sleeping 0 0) idleOperands) = .next t ∧ t.regs.lsmState = .stopped) ∧
    (∃ t, exec .lsmSleep (at' (link .stopped 1 2) idleOperands) = .next t ∧ t.regs.lsmState = .sleeping) ∧
    ∃ t, exec .lsmConsume (at' (link .sleeping 0 0) (withFrame (errorFrame 0x040 (zeros 8)))) = .next t ∧
      t.regs.lsmState = .busOff := ⟨rfl, rfl, ⟨_, rfl, rfl⟩, ⟨_, rfl, rfl⟩, ⟨_, rfl, rfl⟩, ⟨_, rfl, rfl⟩⟩

/-- The last assigned index, the first and the last unassigned one. -/
theorem witness_RegReadFollowsTheReadMap :
    (registerAt Registers.reset 8).isSome = true ∧ registerAt Registers.reset 9 = none ∧
    registerAt Registers.reset 255 = none := by decide

/-- D1. -/
theorem witness_IngestDiscardsWhatDecodeRejects :
    let s := at' Registers.reset (withBuf (rx123 ++ [8, 0, 0]))
    exec (.decode classic) s = .next { s with result := some { result := .malformedFrame .shortHeader, outputs := .none } } :=
  exec_decode_of_fits (fits (by decide))

/-- I1 (error), I2 (data, overflow) and I4 (echo), with and without a raw timestamp. -/
theorem witness_IngestIsDecodeObserveThenRoute :
    (at' Registers.reset (withBuf bufI1)).operands.buf.length ≤ Config.maxBufLen ∧
    decodeFrame classic bufI1 =
      .ok { echoId := 0xFFFFFFFF, frame := errorFrame 0x204 (status8 0x20 128 0), rawTs := none } ∧
    decodeFrame classic bufI2 =
      .ok { echoId := 0xFFFFFFFF, frame := { standard 0x123 eightAA with overflowFlag := true }, rawTs := none } ∧
    decodeFrame classicTs (bufI4 ++ [0x20, 0, 0, 0]) =
      .ok { echoId := 7, frame := errorFrame 0x204 (status8 0x20 128 0), rawTs := some 0x20 } ∧
    (bufI4 ++ [0x20, 0, 0, 0]).length ≤ Config.maxBufLen :=
  ⟨fits (by decide), by decide, by decide, by decide, fits (by decide)⟩

/-- E1 with an echo id, and data and error frames with the sentinel. -/
theorem witness_IngestRoutesAnEncodedFrame :
    classic.ts = false ∧ ValidFor classic (standard 0x123 eightAA) ∧ (1 : Word) ≠ 0xFFFFFFFF ∧
    (standard 0x123 eightAA).isError = false ∧ ValidFor classic (errorFrame 0x204 (status8 0x20 128 0)) ∧
    (errorFrame 0x204 (status8 0x20 128 0)).isError = true := by decide

theorem witness_OverflowFlagNeverMovesARegister :
    (rx123 ++ [0, 0, 0]).length ≤ Config.maxBufLen ∧ (rx123 ++ [0, 0, 1]).length = (rx123 ++ [0, 0, 0]).length ∧
    (∀ i, i ≠ 10 → (rx123 ++ [0, 0, 1]).getD i 0 = (rx123 ++ [0, 0, 0]).getD i 0) ∧
    ((rx123 ++ [0, 0, 1]).getD 10 0).toNat / 2 = ((rx123 ++ [0, 0, 0]).getD 10 0).toNat / 2 := by
  refine ⟨fits (by decide), rfl, ?_, by decide⟩
  intro i h10
  by_cases h : i < 11
  · have : ∀ j : Fin 11, j.val ≠ 10 → (rx123 ++ [0, 0, 1]).getD j.val 0 = (rx123 ++ [0, 0, 0]).getD j.val 0 := by decide
    exact this ⟨i, h⟩ h10
  · have len : ∀ l : List Byte, l.length = 11 → l.getD i 0 = 0 := fun l hl => List.getD_eq_default _ _ (by omega)
    rw [len _ rfl, len _ rfl]

/-- One command that offers an event; it witnesses each statement over every command. -/
theorem witness_EventPortKeepsAnOrderedPartOfWhatIsOffered :
    ∃ t, exec .lsmConsume (at' Registers.reset (withFrame (errorFrame 0 (zeros 8)))) = .next t ∧
      offeredEvents .lsmConsume (at' Registers.reset (withFrame (errorFrame 0 (zeros 8)))) = [.unrecognizedErrorFrame] :=
  ⟨_, rfl, rfl⟩

theorem witness_OutputsAreAppendedInCommandOrder :
    ∃ t, exec (.ingest classic) (at' Registers.reset (withBuf bufI4)) = .next t ∧
      t.echoOut = [{ echoId := 7, frame := errorFrame 0x204 (status8 0x20 128 0) }] :=
  ⟨_, exec_ingest_of_fits (fits (by decide)), rfl⟩

theorem witness_OnlyItsWritersChangeARegister :
    (∃ t, exec .tsResync (at' Registers.reset (withSample 5 7)) = .next t ∧ t.regs = anchored 5 5 7 0) ∧
    ∃ t, exec .lsmConsume (at' Registers.reset (withFrame (errorFrame 0x200 (status8 0 97 1)))) = .next t ∧
      t.regs = link .errorWarning 97 1 := ⟨⟨_, rfl, rfl⟩, ⟨_, rfl, rfl⟩⟩

theorem witness_EveryStepHoldsUnanchoredRegistersAtZero :
    UnanchoredHeldAtZero (pending [.command 0x05 (withSample 5 7)]) ∧
    (pending [.command 0x05 (withSample 5 7)]).regs.tsValid = false ∧
    ∃ t, step (pending [.command 0x05 (withSample 5 7)]) = .next t := ⟨by decide, rfl, _, rfl⟩

theorem witness_EveryStepKeepsThePortsSound :
    PortsSound (filled [.command 0x03 (withBuf bufI4)]) ∧ ∃ t, step (filled [.command 0x03 (withBuf bufI4)]) = .next t :=
  ⟨⟨by decide, by decide, by decide⟩, _,
   exec_ingest_of_fits (mode := classic) (s := State.latch (filled []) (withBuf bufI4)) (fits (by decide))⟩

end Sys2Proof.Tests
end

section
/-! PROOF. The statements of spec/00_scope.md: what every step keeps (the parameters, the inputs, the draws, the output ports), and
what the frame operand carries. First what a command and a step can do, then what each operation keeps, then the statements. -/

namespace Sys2Proof.Machine

/-! ### What a command, an action of the host and a step can do -/

/-- Everything a command that goes on can do to the fields other than the registers and the result record: nothing, a frame of
DECODE, the frame LSM_CONSUME feeds, or what INGEST does with a buffer (R34, R220). -/
theorem exec_next_cases {i : Instr} {s t : State} (h : exec i s = .next t) :
    (∃ regs result, t = { s with regs := regs, result := result }) ∨
    (∃ mode d, i = .decode mode ∧ decodeFrame mode s.operands.buf = .ok d ∧
      t = (s.putFrame d.frame).finish .ok (.decoded d)) ∨
    (i = .lsmConsume ∧ t = (s.consume s.operands.frame).finish (consumeResult s.operands.frame) .none) ∨
    (∃ mode d, i = .ingest mode ∧ decodeFrame mode s.operands.buf = .ok d ∧ t = s.ingestDecoded d) ∨
    (∃ mode k, i = .ingest mode ∧ decodeFrame mode s.operands.buf = .error k ∧ t = s.ingestMalformed k) := by
  cases i with
  | decode mode =>
    obtain ⟨-, rfl⟩ := State.withBuffer_eq_next.1 h
    split
    next d hd => exact .inr (.inl ⟨mode, d, rfl, hd, rfl⟩)
    next => exact .inl ⟨_, _, rfl⟩
  | ingest mode =>
    obtain ⟨-, rfl⟩ := State.withBuffer_eq_next.1 h
    split
    next d hd => exact .inr (.inr (.inr (.inl ⟨mode, d, rfl, hd, rfl⟩)))
    next k hk => exact .inr (.inr (.inr (.inr ⟨mode, k, rfl, hk, rfl⟩)))
  | lsmConsume =>
    cases h
    exact .inr (.inr (.inl ⟨rfl, rfl⟩))
  | encode mode =>
    cases h
    split <;> exact .inl ⟨_, _, rfl⟩
  | regRead idx =>
    cases h
    split <;> exact .inl ⟨_, _, rfl⟩
  | tsObserve | tsResync | lsmStop | lsmSleep | channelStart | stateRead =>
    cases h
    exact .inl ⟨_, _, rfl⟩

/-- Accepting a command runs the instruction of its word on its operands, or raises the cause of an illegal word (R254). -/
theorem State.issue_next_cases {s t : State} {word : Word} {ops : Operands} (h : s.issue word ops = .next t) :
    (∃ i, Sys2Proof.decode word = .ok i ∧ exec i (s.latch ops) = .next t) ∨
    (∃ k, Sys2Proof.decode word = .error k ∧ t = (s.latch ops).raise (.illegalCommand k)) := by
  unfold State.issue at h
  split at h
  next i hi => exact .inl ⟨i, hi, h⟩
  next k hk => cases h; exact .inr ⟨k, hk, rfl⟩

/-- A step waits when nothing is pending, and else performs the oldest pending input (R265; log entry 1). -/
theorem step_next_cases {s t : State} (h : step s = .next t) :
    (s.inputs = [] ∧ t = s) ∨
    (∃ input rest, s.inputs = input :: rest ∧ State.perform { s with inputs := rest } input = .next t) := by
  unfold step at h
  split at h
  next hnil => cases h; exact .inl ⟨hnil, rfl⟩
  next input rest hcons => exact .inr ⟨input, rest, hcons, h⟩

/-! ### The fields of the model's own across each operation -/

/-- The parameters and the pending inputs are the same, and at most `n` events were drawn (log entries 1, 4, 6). -/
structure KeepsOwnFields (n : Nat) (s t : State) : Prop where
  params : t.params = s.params
  inputs : t.inputs = s.inputs
  draws_le : s.eventDraws ≤ t.eventDraws
  draws_le_add : t.eventDraws ≤ s.eventDraws + n

namespace KeepsOwnFields

/-- Whatever leaves the three fields as they are draws no event. -/
theorem of_eq {n : Nat} {s t : State} (hparams : t.params = s.params) (hinputs : t.inputs = s.inputs)
    (hdraws : t.eventDraws = s.eventDraws) : KeepsOwnFields n s t :=
  ⟨hparams, hinputs, hdraws.ge, by omega⟩

theorem mono {m n : Nat} {s t : State} (h : KeepsOwnFields m s t) (hmn : m ≤ n) : KeepsOwnFields n s t :=
  ⟨h.params, h.inputs, h.draws_le, h.draws_le_add.trans (Nat.add_le_add_left hmn _)⟩

theorem trans {m n : Nat} {s t u : State} (hst : KeepsOwnFields m s t) (htu : KeepsOwnFields n t u) :
    KeepsOwnFields (m + n) s u := by
  obtain ⟨hparams, hinputs, hle, hle_add⟩ := hst
  obtain ⟨hparams', hinputs', hle', hle_add'⟩ := htu
  exact ⟨hparams'.trans hparams, hinputs'.trans hinputs, by omega, by omega⟩

theorem finish {n : Nat} {s t : State} (h : KeepsOwnFields n s t) (r : CommandResult) (o : Outputs) :
    KeepsOwnFields n s (t.finish r o) :=
  h.trans (n := 0) (of_eq rfl rfl rfl)

theorem emit (s : State) (e : Event) : KeepsOwnFields 1 s (s.emit e) :=
  ⟨rfl, rfl, Nat.le_succ _, Nat.le_refl _⟩

theorem consume (s : State) (f : CanFrame) : KeepsOwnFields 1 s (s.consume f) := by
  rcases s.consume_cases f with ⟨_, h, _⟩ | ⟨_, h, _⟩ <;> rw [h]
  · exact of_eq rfl rfl rfl
  · exact emit s _

theorem signalOverflow (s : State) (f : CanFrame) : KeepsOwnFields 1 s (s.signalOverflow f) := by
  rcases s.signalOverflow_cases f with ⟨_, h⟩ | ⟨_, h⟩ <;> rw [h]
  · exact emit s _
  · exact of_eq rfl rfl rfl

/-- Routing draws an event only for an error frame that is not recognized (R220, R255). -/
theorem route (s : State) (echoId : Word) (f : CanFrame) : KeepsOwnFields 1 s (s.route echoId f) := by
  rcases s.route_cases echoId f with ⟨_, _, h⟩ | ⟨_, _, h⟩ | ⟨_, h⟩ <;> rw [h]
  · exact (consume s f).finish _ _
  · exact of_eq rfl rfl rfl
  · exact of_eq rfl rfl rfl

/-- INGEST of a decoded buffer draws at most one event for the overflow flag and one for the routing (R257). -/
theorem ingestDecoded (s : State) (d : Decoded) : KeepsOwnFields 2 s (s.ingestDecoded d) :=
  have hobserve : KeepsOwnFields 0 s { s with regs := (observeDecoded s.params s.regs d).1 } := of_eq rfl rfl rfl
  (hobserve.trans (signalOverflow _ d.frame)).trans (route _ d.echoId (stampedFrame s.params s.regs d))

/-- Every command keeps the parameters and the pending inputs and draws at most two events (R8, R58, R259). -/
theorem of_exec {i : Instr} {s t : State} (h : exec i s = .next t) : KeepsOwnFields 2 s t := by
  rcases exec_next_cases h with ⟨_, _, rfl⟩ | ⟨_, _, _, _, rfl⟩ | ⟨_, rfl⟩ | ⟨_, d, _, _, rfl⟩ | ⟨_, k, _, _, rfl⟩
  · exact of_eq rfl rfl rfl
  · exact of_eq rfl rfl rfl
  · exact ((consume s s.operands.frame).finish _ _).mono (by decide)
  · exact ingestDecoded s d
  · exact ((emit s (.malformedFrame k)).finish _ _).mono (by decide)

/-- So does every action of the host: none writes the list of pending inputs. -/
theorem of_perform {s t : State} {input : HostInput} (h : s.perform input = .next t) : KeepsOwnFields 2 s t := by
  cases input with
  | command word ops =>
    rcases State.issue_next_cases h with ⟨i, _, hexec⟩ | ⟨k, _, rfl⟩
    · have hlatch : KeepsOwnFields 0 s (s.latch ops) := of_eq rfl rfl rfl
      exact hlatch.trans (of_exec hexec)
    · exact of_eq rfl rfl rfl
  | take port => cases h; cases port <;> exact of_eq rfl rfl rfl
  | powerOn => cases h; exact of_eq rfl rfl rfl

end KeepsOwnFields

/-! ### What a decoded frame satisfies -/

/-- Bits 28:0 of an id word are a 29-bit number (R76). -/
theorem canIdNumber_lt (cid : Word) : (canIdNumber cid).toNat < 2 ^ 29 := by
  rw [canIdNumber, BitVec.toNat_and]
  exact Nat.and_lt_two_pow _ (by decide)

/-- A standard id word that is not rejected carries an 11-bit number (R76, R116). -/
theorem canIdNumber_lt_of_standard {cid : Word} (hstd : canIdExtended cid = false) (hfit : canIdTooWide cid = false) :
    (canIdNumber cid).toNat < 2 ^ 11 := by
  have hhigh : cid &&& 0x1FFFF800#32 = 0#32 := by simpa [canIdTooWide, hstd] using hfit
  have hlow : canIdNumber cid = cid &&& 0x7FF#32 := by
    calc canIdNumber cid = cid &&& (0x1FFFF800#32 ||| 0x7FF#32) := rfl
      _ = cid &&& 0x7FF#32 := by rw [BitVec.and_or_distrib_left, hhigh, BitVec.zero_or]
  rw [hlow, BitVec.toNat_and]
  exact Nat.and_lt_two_pow _ (by decide)

/-- Every length of the DLC table has a code (R83 to R85). -/
theorem len2dlc_isSome_of_dlc2len {fd : Bool} {code : Nat} {n : BitVec 7} (h : dlc2len fd code = some n) :
    (len2dlc fd n).isSome = true := by
  rcases dlc2len_cases h with ⟨hle, hn⟩ | ⟨rfl, _, _, htable⟩
  · simp [len2dlc, hn, hle]
  · have hmem := List.mem_of_getElem? htable
    simp only [List.mem_cons, List.not_mem_nil, or_false] at hmem
    rcases hmem with rfl | rfl | rfl | rfl | rfl | rfl | rfl <;> rfl

/-- A length with a code is at most 64 (R83 to R85). -/
theorem le_of_len2dlc_eq_some {fd : Bool} {n : BitVec 7} {code : Nat} (h : len2dlc fd n = some code) :
    n.toNat ≤ 64 := by
  unfold len2dlc at h
  split at h
  · omega
  · split at h
    · split at h <;> simp_all
    · cases h

/-- A payload that the buffer holds in full has the data length of the header (R81, R110). -/
theorem dataLength_frameOf {buf : List Byte} {dl : BitVec 7} (h : dl.toNat ≤ buf.length - headerLength) :
    dataLength (frameOf buf dl) = dl := by
  apply BitVec.eq_of_toNat_eq
  simpa [frameOf] using h

end Sys2Proof.Machine

namespace Sys2Proof.Safety

open Sys2Proof.Machine

/-- Every frame that DECODE yields has an id that fits and a length with a code, and carries no timestamp (R76, R83, R110). -/
theorem decodeFrame_deliverable {mode : ChannelMode} {buf : List Byte} {d : Decoded} (h : decodeFrame mode buf = .ok d) :
    DeliverableFrame d.frame ∧ d.frame.timestamp = none := by
  obtain ⟨_, _, _, dl, hdl, hbody⟩ := decodeFrame_ok h
  obtain ⟨hpayload, _, hid, rfl⟩ := decodeBody_ok hbody
  refine ⟨⟨?_, ?_⟩, rfl⟩
  · change (canIdNumber (idWord buf)).toNat < if canIdExtended (idWord buf) = true then 2 ^ 29 else 2 ^ 11
    split
    next => exact canIdNumber_lt _
    next hext => exact canIdNumber_lt_of_standard (Bool.eq_false_iff.2 hext) hid
  · change (len2dlc (flagFd (flagsOf buf)) (dataLength (frameOf buf dl))).isSome = true
    rw [dataLength_frameOf hpayload]
    exact len2dlc_isSome_of_dlc2len hdl

/-- A host time changes neither the id nor the length of a frame. -/
theorem deliverable_stampedFrame {d : Decoded} (h : DeliverableFrame d.frame) (p : Params) (r : Registers) :
    DeliverableFrame (stampedFrame p r d) := h

/-! ### The output ports across each operation -/

namespace PortsSound

variable {s t : State}

/-- Whatever leaves the three ports as they are keeps them sound. -/
theorem of_ports_eq (hs : PortsSound s) (hdata : t.dataOut = s.dataOut) (hecho : t.echoOut = s.echoOut)
    (hframe : t.frameOut = s.frameOut) : PortsSound t :=
  ⟨hdata ▸ hs.data, hecho ▸ hs.echo, hframe ▸ hs.decoded⟩

theorem finish (hs : PortsSound s) (r : CommandResult) (o : Outputs) : PortsSound (s.finish r o) :=
  hs.of_ports_eq rfl rfl rfl

theorem emit (hs : PortsSound s) (e : Event) : PortsSound (s.emit e) := hs.of_ports_eq rfl rfl rfl

theorem latch (hs : PortsSound s) (ops : Operands) : PortsSound (s.latch ops) := hs.of_ports_eq rfl rfl rfl

theorem consume (hs : PortsSound s) (f : CanFrame) : PortsSound (s.consume f) := by
  rcases s.consume_cases f with ⟨_, h, _⟩ | ⟨_, h, _⟩ <;> rw [h]
  · exact hs.of_ports_eq rfl rfl rfl
  · exact hs.emit _

theorem signalOverflow (hs : PortsSound s) (f : CanFrame) : PortsSound (s.signalOverflow f) := by
  rcases s.signalOverflow_cases f with ⟨_, h⟩ | ⟨_, h⟩ <;> rw [h]
  · exact hs.emit _
  · exact hs

theorem deliver (hs : PortsSound s) {f : CanFrame} (hf : DeliverableFrame f) (herr : f.isError = false) :
    PortsSound (s.deliver f) :=
  ⟨List.forall_mem_append.2 ⟨hs.data, by simpa using ⟨hf, herr⟩⟩, hs.echo, hs.decoded⟩

theorem echoed (hs : PortsSound s) {e : EchoEntry} (hf : DeliverableFrame e.frame) (hid : e.echoId ≠ rxSentinel) :
    PortsSound (s.echo e) :=
  ⟨hs.data, List.forall_mem_append.2 ⟨hs.echo, by simpa using ⟨hf, hid⟩⟩, hs.decoded⟩

theorem putFrame (hs : PortsSound s) {f : CanFrame} (hf : DeliverableFrame f) (hstamp : f.timestamp = none) :
    PortsSound (s.putFrame f) :=
  ⟨hs.data, hs.echo, List.forall_mem_append.2 ⟨hs.decoded, by simpa using ⟨hf, hstamp⟩⟩⟩

/-- What the host takes off a port leaves a sound rest. -/
theorem takeFrom (hs : PortsSound s) (port : OutPort) : PortsSound (s.takeFrom port) := by
  cases port with
  | events => exact hs.of_ports_eq rfl rfl rfl
  | dataOut => exact ⟨fun f hf => hs.data f (List.mem_of_mem_drop hf), hs.echo, hs.decoded⟩
  | echoOut => exact ⟨hs.data, fun e he => hs.echo e (List.mem_of_mem_drop he), hs.decoded⟩
  | frameOut => exact ⟨hs.data, hs.echo, fun f hf => hs.decoded f (List.mem_of_mem_drop hf)⟩

/-- Power-on leaves every port empty (R280). -/
theorem powerOn (s : State) : PortsSound s.powerOn :=
  ⟨List.forall_mem_nil _, List.forall_mem_nil _, List.forall_mem_nil _⟩

/-- Routing sends a deliverable frame to the one port whose condition its echo id and error flag meet (R220, R224). -/
theorem route (hs : PortsSound s) (echoId : Word) {f : CanFrame} (hf : DeliverableFrame f) :
    PortsSound (s.route echoId f) := by
  rcases s.route_cases echoId f with ⟨_, _, h⟩ | ⟨_, herr, h⟩ | ⟨hid, h⟩ <;> rw [h]
  · exact (hs.consume f).finish _ _
  · exact (hs.deliver hf herr).finish _ _
  · exact (hs.echoed hf hid).finish _ _

theorem ingestDecoded (hs : PortsSound s) {d : Decoded} (hd : DeliverableFrame d.frame) :
    PortsSound (s.ingestDecoded d) :=
  have hobserve : PortsSound { s with regs := (observeDecoded s.params s.regs d).1 } := hs.of_ports_eq rfl rfl rfl
  (hobserve.signalOverflow d.frame).route d.echoId (deliverable_stampedFrame hd s.params s.regs)

/-- Every command keeps the ports sound. -/
theorem of_exec (hs : PortsSound s) {i : Instr} (h : exec i s = .next t) : PortsSound t := by
  rcases exec_next_cases h with ⟨_, _, rfl⟩ | ⟨_, d, _, hd, rfl⟩ | ⟨_, rfl⟩ | ⟨_, d, _, hd, rfl⟩ | ⟨_, k, _, _, rfl⟩
  · exact hs.of_ports_eq rfl rfl rfl
  · obtain ⟨hf, hstamp⟩ := decodeFrame_deliverable hd
    exact (hs.putFrame hf hstamp).finish _ _
  · exact (hs.consume _).finish _ _
  · exact hs.ingestDecoded (decodeFrame_deliverable hd).1
  · exact (hs.emit _).finish _ _

/-- Every action of the host keeps the ports sound. -/
theorem of_perform (hs : PortsSound s) {input : HostInput} (h : s.perform input = .next t) : PortsSound t := by
  cases input with
  | command word ops =>
    rcases State.issue_next_cases h with ⟨i, _, hexec⟩ | ⟨k, _, rfl⟩
    · exact (hs.latch ops).of_exec hexec
    · exact (hs.latch ops).finish _ _
  | take port => cases h; exact hs.takeFrom port
  | powerOn => cases h; exact powerOn s

end PortsSound

end Sys2Proof.Safety

namespace Sys2Proof.Proofs

open Sys2Proof.Machine Sys2Proof.Safety

/-- Settles O44: a decoded frame is deliverable, routing respects each port's condition, and no other operation adds to a port. -/
theorem everyStepKeepsThePortsSound : Obligations.EveryStepKeepsThePortsSound := by
  intro s t hs h
  rcases step_next_cases h with ⟨_, rfl⟩ | ⟨input, rest, _, hperform⟩
  · exact hs
  · have hrest : PortsSound { s with inputs := rest } := hs.of_ports_eq rfl rfl rfl
    exact hrest.of_perform hperform

/-- Settles O8: the step takes the oldest input, and performing it keeps the model's own fields but for two draws at most. -/
theorem stepKeepsParametersAndTakesOneInput : Obligations.StepKeepsParametersAndTakesOneInput := by
  intro s t h
  rcases step_next_cases h with ⟨hnil, rfl⟩ | ⟨input, rest, hcons, hperform⟩
  · exact ⟨rfl, by simp [hnil], Nat.le_refl _, Nat.le_add_right _ _⟩
  · obtain ⟨hparams, hinputs, hle, hle_add⟩ := KeepsOwnFields.of_perform hperform
    exact ⟨hparams, by simp [hinputs, hcons], hle, hle_add⟩

/-- ENCODE of a frame that fails a check changes nothing but the result (R253, R260). -/
theorem exec_encode_of_error {mode : ChannelMode} {s : State} {k : InvalidCause}
    (h : encodeFrame mode s.operands.echoId s.operands.frame = .error k) :
    exec (.encode mode) s = .next (s.raise (.invalidFrame k)) := by
  simp only [exec, execEncode, h]

/-- No frame longer than 64 bytes passes the checks of ENCODE (R85, R128). -/
theorem encodeFrame_error_of_long {mode : ChannelMode} {e : Word} {f : CanFrame} (h : 64 < (dataLength f).toNat) :
    ∃ k, encodeFrame mode e f = .error k := by
  rcases encodeFrame_cases mode e f with ⟨_, _, herr⟩ | ⟨_, _, herr⟩ | ⟨_, code, hcode, _⟩
  · exact ⟨_, herr⟩
  · exact ⟨_, herr⟩
  · exact absurd (le_of_len2dlc_eq_some hcode) (Nat.not_le.2 h)

/-- Settles O46: the port takes a payload exactly when its length is a 7-bit number, and no length above 64 has a DLC code. -/
theorem framePortCarriesUpTo127Bytes : Obligations.FramePortCarriesUpTo127Bytes := by
  refine ⟨fun f bytes hshort => ?_, fun f bytes hlong => ?_, fun mode s hlong => ?_⟩
  · have hfits : payloadFitsPort bytes := Nat.lt_succ_of_le hshort
    exact ⟨_, dif_pos hfits, rfl, rfl⟩
  · exact dif_neg (Nat.not_lt.2 hlong)
  · obtain ⟨k, hk⟩ := encodeFrame_error_of_long (e := s.operands.echoId) hlong
    exact ⟨k, exec_encode_of_error hk⟩

end Sys2Proof.Proofs
end

section
/-! PROOF. The statements of spec/10_state.md: reset, the reads of the registers, which command writes which register, and what
a command appends to the output ports. First R33's write table as a relation on the registers, then what the operations leave on
the output ports, then the statements. -/

namespace Sys2Proof.Machine

/-! ### What a command can write in the registers -/

/-- R33's write table: the registers `r'` a command can leave where it found `r`. A sample is tracked only after the anchor
(R155), and TS_RESYNC always leaves an anchor (R158). -/
inductive RegWrite (r : Registers) : Instr → Registers → Prop
  | nothing (i : Instr) : RegWrite r i r
  | observe (lastRaw wrap : Word) (unanchored : r.tsValid = false → lastRaw = r.tsLastRaw ∧ wrap = r.tsWrap) :
      RegWrite r .tsObserve { r with tsLastRaw := lastRaw, tsWrap := wrap }
  | resync (lastRaw zeroRaw wrap : Word) (baseHost : HostTime) :
      RegWrite r .tsResync { r with tsValid := true, tsLastRaw := lastRaw, tsZeroRaw := zeroRaw, tsBaseHost := baseHost,
                                    tsWrap := wrap }
  | consume (state : LinkState) (tx rx : BitVec 8) : RegWrite r .lsmConsume (setLink r state tx rx)
  | stop : RegWrite r .lsmStop { r with lsmState := .stopped }
  | sleep : RegWrite r .lsmSleep { r with lsmState := .sleeping }
  | start : RegWrite r .channelStart Registers.reset
  | ingest (mode : ChannelMode) (lastRaw wrap : Word) (state : LinkState) (tx rx : BitVec 8)
      (unanchored : r.tsValid = false → lastRaw = r.tsLastRaw ∧ wrap = r.tsWrap) :
      RegWrite r (.ingest mode) (setLink { r with tsLastRaw := lastRaw, tsWrap := wrap } state tx rx)

/-- Observing a sample writes TS_LAST_RAW and TS_WRAP at most, and neither before the anchor (R155, R156). -/
theorem observe_regs (p : Params) (r : Registers) (raw : Word) :
    ∃ lastRaw wrap : Word, (r.tsValid = false → lastRaw = r.tsLastRaw ∧ wrap = r.tsWrap) ∧
      (observe p r raw).1 = { r with tsLastRaw := lastRaw, tsWrap := wrap } := by
  refine ⟨_, _, fun hv => ?_, observe_frame p r raw⟩
  have hsame : observe p r raw = (r, none) := by simp [observe, hv]
  simp [hsame]

/-- The raw timestamp of a decoded frame is observed the same way (R222). -/
theorem observeDecoded_regs (p : Params) (r : Registers) (d : Decoded) :
    ∃ lastRaw wrap : Word, (r.tsValid = false → lastRaw = r.tsLastRaw ∧ wrap = r.tsWrap) ∧
      (observeDecoded p r d).1 = { r with tsLastRaw := lastRaw, tsWrap := wrap } := by
  rcases observeDecoded_cases p r d with ⟨_, h⟩ | ⟨raw, _, h⟩ <;> rw [h]
  · exact ⟨_, _, fun _ => ⟨rfl, rfl⟩, rfl⟩
  · exact observe_regs p r raw

/-- TS_RESYNC leaves an anchor and writes timestamp registers only (R158). -/
theorem resync_regs (p : Params) (r : Registers) (raw : Word) (hostNow : HostTime) :
    ∃ (lastRaw zeroRaw wrap : Word) (baseHost : HostTime),
      (resync p r raw hostNow).1 = { r with tsValid := true, tsLastRaw := lastRaw, tsZeroRaw := zeroRaw,
                                            tsBaseHost := baseHost, tsWrap := wrap } := by
  rcases resync_cases p r raw hostNow with ⟨_, h⟩ | ⟨_, _, h⟩ | ⟨hv, _, _, h⟩ <;> rw [h]
  · exact ⟨_, _, _, _, rfl⟩
  · exact ⟨_, _, _, _, rfl⟩
  · exact ⟨_, _, _, _, by rw [← hv]; rfl⟩

/-- Feeding a frame to the state machine writes link-state registers only (R187). -/
theorem State.consume_regs (s : State) (f : CanFrame) :
    ∃ state tx rx, (s.consume f).regs = setLink s.regs state tx rx := by
  rcases s.consume_cases f with ⟨_, h, _⟩ | ⟨_, h, _⟩ <;> rw [h]
  · exact ⟨_, _, _, lsmNext_frame s.params f s.regs⟩
  · exact ⟨_, _, _, rfl⟩

/-- Routing writes link-state registers only: by the frame it consumes, if it consumes one (R220). -/
theorem State.route_regs (s : State) (echoId : Word) (f : CanFrame) :
    ∃ state tx rx, (s.route echoId f).regs = setLink s.regs state tx rx := by
  rcases s.route_cases echoId f with ⟨_, _, h⟩ | ⟨_, _, h⟩ | ⟨_, h⟩ <;> rw [h]
  · exact s.consume_regs f
  · exact ⟨_, _, _, rfl⟩
  · exact ⟨_, _, _, rfl⟩

@[simp] theorem State.signalOverflow_regs (s : State) (f : CanFrame) : (s.signalOverflow f).regs = s.regs := by
  rcases s.signalOverflow_cases f with ⟨_, h⟩ | ⟨_, h⟩ <;> simp [h]

namespace RegWrite

/-- INGEST of a decoded buffer observes its timestamp, then routes its frame (R220). -/
theorem ingestDecoded (mode : ChannelMode) (s : State) (d : Decoded) :
    RegWrite s.regs (.ingest mode) (s.ingestDecoded d).regs := by
  obtain ⟨lastRaw, wrap, hunanchored, hobserve⟩ := observeDecoded_regs s.params s.regs d
  obtain ⟨state, tx, rx, hroute⟩ :=
    (State.signalOverflow { s with regs := (observeDecoded s.params s.regs d).1 } d.frame).route_regs d.echoId
      (stampedFrame s.params s.regs d)
  rw [State.ingestDecoded, hroute, State.signalOverflow_regs, hobserve]
  exact .ingest mode lastRaw wrap state tx rx hunanchored

/-- Every command that goes on follows the write table (R33). -/
theorem of_exec {i : Instr} {s t : State} (h : exec i s = .next t) : RegWrite s.regs i t.regs := by
  cases i with
  | decode mode =>
    obtain ⟨-, rfl⟩ := State.withBuffer_eq_next.1 h
    split <;> exact .nothing _
  | encode mode =>
    cases h
    split <;> exact .nothing _
  | ingest mode =>
    obtain ⟨-, rfl⟩ := State.withBuffer_eq_next.1 h
    split
    · exact ingestDecoded mode s _
    · exact .nothing _
  | tsObserve =>
    cases h
    obtain ⟨lastRaw, wrap, hunanchored, hregs⟩ := observe_regs s.params s.regs s.operands.raw
    rw [State.finish_regs, hregs]
    exact .observe lastRaw wrap hunanchored
  | tsResync =>
    cases h
    obtain ⟨lastRaw, zeroRaw, wrap, baseHost, hregs⟩ :=
      resync_regs s.params s.regs s.operands.raw s.operands.hostNow
    rw [State.finish_regs, hregs]
    exact .resync lastRaw zeroRaw wrap baseHost
  | lsmConsume =>
    cases h
    obtain ⟨state, tx, rx, hregs⟩ := s.consume_regs s.operands.frame
    rw [State.finish_regs, hregs]
    exact .consume state tx rx
  | lsmStop => cases h; exact .stop
  | lsmSleep => cases h; exact .sleep
  | channelStart => cases h; exact .start
  | stateRead => cases h; exact .nothing _
  | regRead idx =>
    cases h
    split <;> exact .nothing _

/-! ### The writers of each register -/

section Writers

variable {r r' : Registers} {i : Instr}

theorem lsmState_writer (h : RegWrite r i r') (hne : r'.lsmState ≠ r.lsmState) :
    i = .lsmConsume ∨ i = .lsmStop ∨ i = .lsmSleep ∨ i = .channelStart ∨ ∃ mode, i = .ingest mode := by
  cases h with
  | nothing | observe | resync => exact absurd rfl hne
  | consume | stop | sleep | start | ingest => simp

theorem counter_writer (h : RegWrite r i r') (hne : r'.lsmTxErr ≠ r.lsmTxErr ∨ r'.lsmRxErr ≠ r.lsmRxErr) :
    i = .lsmConsume ∨ i = .channelStart ∨ ∃ mode, i = .ingest mode := by
  cases h with
  | nothing | observe | resync | stop | sleep => simp at hne
  | consume | start | ingest => simp

theorem anchor_writer (h : RegWrite r i r')
    (hne : r'.tsValid ≠ r.tsValid ∨ r'.tsZeroRaw ≠ r.tsZeroRaw ∨ r'.tsBaseHost ≠ r.tsBaseHost) :
    i = .tsResync ∨ i = .channelStart := by
  cases h with
  | nothing | observe | stop | sleep => simp at hne
  | consume | ingest => simp [setLink] at hne
  | resync | start => simp

theorem sample_writer (h : RegWrite r i r') (hne : r'.tsLastRaw ≠ r.tsLastRaw ∨ r'.tsWrap ≠ r.tsWrap) :
    i = .tsObserve ∨ i = .tsResync ∨ i = .channelStart ∨ ∃ mode, i = .ingest mode := by
  cases h with
  | nothing | stop | sleep => simp at hne
  | consume => simp [setLink] at hne
  | observe | resync | start | ingest => simp

end Writers

end RegWrite

/-! ### The timestamp registers before the anchor -/

/-- `UnanchoredHeldAtZero` as a property of the registers alone (R281). -/
def Registers.HeldAtZero (r : Registers) : Prop :=
  r.tsValid = false → r.tsLastRaw = 0 ∧ r.tsZeroRaw = 0 ∧ r.tsBaseHost = 0 ∧ r.tsWrap = 0

theorem heldAtZero_regs_iff (s : State) : s.regs.HeldAtZero ↔ Safety.UnanchoredHeldAtZero s := Iff.rfl

theorem Registers.heldAtZero_reset : Registers.reset.HeldAtZero := fun _ => ⟨rfl, rfl, rfl, rfl⟩

/-- A write to an unanchored engine is an anchor, a reset, or leaves the timestamp registers as they are. -/
theorem RegWrite.keeps_heldAtZero {r r' : Registers} {i : Instr} (h : RegWrite r i r') (hr : r.HeldAtZero) :
    r'.HeldAtZero := by
  cases h with
  | nothing | consume | stop | sleep => exact hr
  | resync => exact fun hv => nomatch hv
  | start => exact Registers.heldAtZero_reset
  | observe lastRaw wrap unanchored | ingest mode lastRaw wrap state tx rx unanchored =>
    intro hv
    obtain ⟨rfl, rfl⟩ := unanchored hv
    exact hr hv

/-- Every action of the host keeps them at 0: a command by the write table, power-on by the reset values (R280). -/
theorem State.perform_keeps_heldAtZero {s t : State} {input : HostInput} (h : s.perform input = .next t)
    (hs : s.regs.HeldAtZero) : t.regs.HeldAtZero := by
  cases input with
  | command word ops =>
    rcases State.issue_next_cases h with ⟨i, _, hexec⟩ | ⟨k, _, rfl⟩
    · exact (RegWrite.of_exec hexec).keeps_heldAtZero hs
    · exact hs
  | take port => cases h; cases port <;> exact hs
  | powerOn => cases h; exact Registers.heldAtZero_reset

/-! ### What a command appends to the output ports -/

/-- The three output ports keep what they held, in order, and gain these entries at their ends (R34, R225). -/
structure Appends (data : List CanFrame) (echo : List EchoEntry) (frames : List CanFrame) (s t : State) : Prop where
  dataOut : t.dataOut = s.dataOut ++ data
  echoOut : t.echoOut = s.echoOut ++ echo
  frameOut : t.frameOut = s.frameOut ++ frames

namespace Appends

/-- Whatever leaves the three ports as they are appends nothing. -/
theorem of_eq {s t : State} (hdata : t.dataOut = s.dataOut) (hecho : t.echoOut = s.echoOut)
    (hframe : t.frameOut = s.frameOut) : Appends [] [] [] s t :=
  ⟨by simp [hdata], by simp [hecho], by simp [hframe]⟩

theorem of_nothing_then {data : List CanFrame} {echo : List EchoEntry} {frames : List CanFrame} {s t u : State}
    (hst : Appends [] [] [] s t) (htu : Appends data echo frames t u) : Appends data echo frames s u := by
  obtain ⟨hdata, hecho, hframe⟩ := hst
  obtain ⟨hdata', hecho', hframe'⟩ := htu
  exact ⟨by simp [hdata', hdata], by simp [hecho', hecho], by simp [hframe', hframe]⟩

theorem consume (s : State) (f : CanFrame) : Appends [] [] [] s (s.consume f) := by
  rcases s.consume_cases f with ⟨_, h, _⟩ | ⟨_, h, _⟩ <;> rw [h] <;> exact of_eq rfl rfl rfl

theorem signalOverflow (s : State) (f : CanFrame) : Appends [] [] [] s (s.signalOverflow f) := by
  rcases s.signalOverflow_cases f with ⟨_, h⟩ | ⟨_, h⟩ <;> rw [h] <;> exact of_eq rfl rfl rfl

/-- Routing appends one entry to the data or the echo output, or none for an error frame (R220, R224). -/
theorem route (s : State) (echoId : Word) (f : CanFrame) :
    ∃ data echo, data.length + echo.length ≤ 1 ∧ Appends data echo [] s (s.route echoId f) := by
  rcases s.route_cases echoId f with ⟨_, _, h⟩ | ⟨_, _, h⟩ | ⟨_, h⟩ <;> rw [h]
  · exact ⟨[], [], Nat.zero_le 1, (consume s f).of_nothing_then (of_eq rfl rfl rfl)⟩
  · exact ⟨[f], [], Nat.le_refl 1, ⟨rfl, by simp, by simp⟩⟩
  · exact ⟨[], [_], Nat.le_refl 1, ⟨by simp, rfl, by simp⟩⟩

/-- So does INGEST of a decoded buffer: what precedes the routing writes no output port (R220). -/
theorem ingestDecoded (s : State) (d : Decoded) :
    ∃ data echo, data.length + echo.length ≤ 1 ∧ Appends data echo [] s (s.ingestDecoded d) := by
  have hobserve : Appends [] [] [] s { s with regs := (observeDecoded s.params s.regs d).1 } := of_eq rfl rfl rfl
  obtain ⟨data, echo, hone, hroute⟩ := route _ d.echoId (stampedFrame s.params s.regs d)
  exact ⟨data, echo, hone, (hobserve.of_nothing_then (signalOverflow _ d.frame)).of_nothing_then hroute⟩

end Appends

/-! ### Reading registers -/

/-- The number of a link state (R22). -/
theorem linkStateCode_toNat (state : LinkState) :
    (linkStateCode state).toNat =
      match state with
      | .errorActive => 0
      | .errorWarning => 1
      | .errorPassive => 2
      | .busOff => 3
      | .stopped => 4
      | .sleeping => 5 := by
  cases state <;> rfl

theorem exec_regRead_of_assigned {s : State} {idx : BitVec 8} {v : Word} (h : registerAt s.regs idx = some v) :
    exec (.regRead idx) s = .next (s.finish .ok (.value v)) := by
  simp only [exec, execRegRead, h]

theorem exec_regRead_of_unassigned {s : State} {idx : BitVec 8} (h : registerAt s.regs idx = none) :
    exec (.regRead idx) s = .next (s.raise (.illegalCommand .badIndex)) := by
  simp only [exec, execRegRead, h]

/-- The low half of a host time as a number. -/
theorem extractLsb'_low_eq_ofNat (x : HostTime) : x.extractLsb' 0 32 = BitVec.ofNat 32 (x.toNat % 2 ^ 32) := by
  apply BitVec.eq_of_toNat_eq
  simp

/-- The high half of a host time as a number. -/
theorem extractLsb'_high_eq_ofNat (x : HostTime) : x.extractLsb' 32 32 = BitVec.ofNat 32 (x.toNat / 2 ^ 32) := by
  apply BitVec.eq_of_toNat_eq
  simp [Nat.shiftRight_eq_div_pow]

end Sys2Proof.Machine

namespace Sys2Proof.Proofs

open Sys2Proof.Machine Sys2Proof.Safety

/-- Settles O42: every command follows the write table, and no write of the table unsets the zeros before the anchor. -/
theorem everyStepHoldsUnanchoredRegistersAtZero : Obligations.EveryStepHoldsUnanchoredRegistersAtZero := by
  intro s t hs h
  rcases step_next_cases h with ⟨_, rfl⟩ | ⟨input, rest, _, hperform⟩
  · exact hs
  · have hrest : Registers.HeldAtZero { s with inputs := rest }.regs := (heldAtZero_regs_iff s).2 hs
    exact (heldAtZero_regs_iff t).1 (State.perform_keeps_heldAtZero hperform hrest)

/-- Settles O40: DECODE appends its frame, INGEST what its routing appends, and every other command nothing. -/
theorem outputsAreAppendedInCommandOrder : Obligations.OutputsAreAppendedInCommandOrder := by
  intro i s t h
  rcases exec_next_cases h with
    ⟨_, _, rfl⟩ | ⟨mode, d, rfl, _, rfl⟩ | ⟨rfl, rfl⟩ | ⟨mode, d, rfl, _, rfl⟩ | ⟨mode, k, rfl, _, rfl⟩
  · exact ⟨[], [], [], by simp⟩
  · exact ⟨[], [], [d.frame], by simp⟩
  · obtain ⟨hdata, hecho, hframe⟩ := Appends.consume s s.operands.frame
    exact ⟨[], [], [], hdata, hecho, hframe, by simp⟩
  · obtain ⟨data, echo, hone, hdata, hecho, hframe⟩ := Appends.ingestDecoded s d
    exact ⟨data, echo, [], hdata, hecho, hframe, hone, fun hne => absurd rfl (hne mode), fun _ => rfl⟩
  · exact ⟨[], [], [], by simp [State.ingestMalformed]⟩

/-- Settles O41: the write table, read register by register. -/
theorem onlyItsWritersChangeARegister : Obligations.OnlyItsWritersChangeARegister := by
  intro i s t h
  have hwrite := RegWrite.of_exec h
  exact ⟨hwrite.lsmState_writer, hwrite.counter_writer, hwrite.anchor_writer, hwrite.sample_writer⟩

/-- Settles O10: the reset state is written out in the model. -/
theorem resetLeavesTheResetValues : Obligations.ResetLeavesTheResetValues :=
  ⟨rfl, rfl, rfl, rfl, rfl, rfl⟩

/-- Settles O11: CHANNEL_START puts the reset registers in place and ends with OK. -/
theorem channelStartResetsEveryRegister : Obligations.ChannelStartResetsEveryRegister :=
  fun _ => rfl

/-- Settles O33: the snapshot shows the state by its code, and the codes are R22's numbers. -/
theorem stateReadGivesTheSnapshot : Obligations.StateReadGivesTheSnapshot :=
  fun s => ⟨linkStateCode s.regs.lsmState, rfl, linkStateCode_toNat s.regs.lsmState⟩

/-- Settles O34: the model's read map gives, index by index, the word of the number the statement writes. -/
theorem regReadFollowsTheReadMap : Obligations.RegReadFollowsTheReadMap := by
  intro idx s r value
  have hmap : registerAt r idx = value.map (BitVec.ofNat 32) := by
    simp only [registerAt, value]
    generalize idx.toNat = n
    match n with
    | 0 => cases r.lsmState <;> rfl
    | 1 | 2 | 4 | 5 | 8 => simp
    | 3 => cases r.tsValid <;> rfl
    | 6 => exact congrArg some (extractLsb'_low_eq_ofNat r.tsBaseHost)
    | 7 => exact congrArg some (extractLsb'_high_eq_ofNat r.tsBaseHost)
    | n + 9 => rfl
  cases hvalue : value with
  | some v => exact exec_regRead_of_assigned (by simp [r, hmap, hvalue])
  | none => exact exec_regRead_of_unassigned (by simp [r, hmap, hvalue])

/-- Settles O43: the registers of the reset state are the reset registers. -/
theorem resetHoldsUnanchoredRegistersAtZero : Obligations.ResetHoldsUnanchoredRegistersAtZero :=
  (heldAtZero_regs_iff State.reset).1 Registers.heldAtZero_reset

end Sys2Proof.Proofs
end

section
/-! PROOF. The statements of spec/20_memory.md: a step on a pending command, which commands a long buffer refuses, and what DECODE
depends on. First what the step and the commands with a buffer do, then the statements. -/

namespace Sys2Proof.Machine

/-! ### A pending action of the host -/

/-- A step performs the oldest pending input with that input taken (log entry 1). -/
theorem step_of_inputs_cons {s : State} {input : HostInput} {rest : List HostInput} (h : s.inputs = input :: rest) :
    step s = State.perform { s with inputs := rest } input := by
  simp only [step, h]

/-- Accepting a legal word runs its instruction with the operands on the port (R91, R95). -/
theorem State.issue_of_decode_eq_ok (s : State) {word : Word} (ops : Operands) {i : Instr}
    (h : Sys2Proof.decode word = .ok i) : s.issue word ops = exec i (s.latch ops) := by
  simp only [State.issue, h]

/-! ### The commands with a buffer -/

/-- The commands that read the input buffer (R51, R95). -/
def ReadsBuffer (i : Instr) : Prop := (∃ mode, i = .decode mode) ∨ ∃ mode, i = .ingest mode

/-- A command with a buffer is refused exactly when the buffer is too long (R52). -/
theorem State.withBuffer_eq_bufferTooLong {s k : State} :
    s.withBuffer k = .refused .bufferTooLong ↔ Config.maxBufLen < s.operands.buf.length := by
  unfold State.withBuffer
  split
  next hfits => simpa using hfits
  next hlong => simpa using hlong

/-- A command with a buffer goes on or is refused for its length. -/
theorem State.withBuffer_cases (s k : State) :
    s.withBuffer k = .next k ∨ s.withBuffer k = .refused .bufferTooLong := ite_eq_or_eq _ _ _

/-- The commands that read the buffer check its length, and every other command goes on (R52, R250). -/
theorem exec_withBuffer_or_next (i : Instr) (s : State) :
    (ReadsBuffer i ∧ ∃ k, exec i s = s.withBuffer k) ∨ (¬ ReadsBuffer i ∧ ∃ t, exec i s = .next t) := by
  cases i with
  | decode mode => exact .inl ⟨.inl ⟨mode, rfl⟩, _, rfl⟩
  | ingest mode => exact .inl ⟨.inr ⟨mode, rfl⟩, _, rfl⟩
  | encode _ | tsObserve | tsResync | lsmConsume | lsmStop | lsmSleep | channelStart | stateRead | regRead _ =>
    exact .inr ⟨by simp [ReadsBuffer], _, rfl⟩

/-! ### What DECODE reads and writes -/

/-- The result record DECODE writes: a function of the mode and the buffer (R110, R117). -/
def decodeRecord (mode : ChannelMode) (buf : List Byte) : ResultRecord :=
  match decodeFrame mode buf with
  | .ok d => { result := .ok, outputs := .decoded d }
  | .error k => { result := .malformedFrame k, outputs := .none }

/-- DECODE of a buffer that fits writes the record of its buffer, and neither a register nor the event port (R56, R117). -/
theorem exec_decode_writes_decodeRecord (mode : ChannelMode) {s : State} (h : s.operands.bufferFits) :
    ∃ t, exec (.decode mode) s = .next t ∧ t.result = some (decodeRecord mode s.operands.buf) ∧
      t.regs = s.regs ∧ t.events = s.events := by
  refine ⟨_, exec_decode_of_fits h, ?_⟩
  unfold decodeRecord
  cases decodeFrame mode s.operands.buf with
  | ok d => exact ⟨rfl, rfl, rfl⟩
  | error k => exact ⟨rfl, rfl, rfl⟩

end Sys2Proof.Machine

namespace Sys2Proof.Proofs

open Sys2Proof.Machine

/-- Settles O6: the step takes the command, its operands are latched, and the decoded instruction runs. -/
theorem stepRunsTheDecodedCommand : Obligations.StepRunsTheDecodedCommand := by
  intro s w ops rest i hinputs hdecode
  calc step s
      = State.issue { s with inputs := rest } w ops := step_of_inputs_cons hinputs
    _ = exec i (State.latch { s with inputs := rest } ops) := State.issue_of_decode_eq_ok _ ops hdecode

/-- Settles O9: only the commands that read the buffer check its length, and that check is the only refusal. -/
theorem onlyALongBufferIsRefused : Obligations.OnlyALongBufferIsRefused := by
  intro i s
  rcases exec_withBuffer_or_next i s with ⟨hreads, k, hexec⟩ | ⟨hreads, t, hexec⟩
  · rw [hexec]
    exact ⟨(State.withBuffer_cases s k).imp_left fun hnext => ⟨k, hnext⟩,
      State.withBuffer_eq_bufferTooLong.trans (and_iff_left hreads).symm⟩
  · rw [hexec]
    exact ⟨.inl ⟨t, rfl⟩, nofun, fun ⟨_, hbuffer⟩ => absurd hbuffer hreads⟩

/-- Settles O15: in each state DECODE writes the record of the buffer, which both states share. -/
theorem decodeDependsOnItsBufferAlone : Obligations.DecodeDependsOnItsBufferAlone := by
  intro mode s other hfits hbuf
  have hfits' : other.operands.bufferFits := by rwa [Operands.bufferFits, hbuf]
  obtain ⟨t, hexec, hresult, hregs, hevents⟩ := exec_decode_writes_decodeRecord mode hfits
  obtain ⟨t', hexec', hresult', hregs', hevents'⟩ := exec_decode_writes_decodeRecord mode hfits'
  exact ⟨t, t', hexec, hexec', by rw [hresult', hresult, hbuf], hregs, hregs', hevents, hevents'⟩

end Sys2Proof.Proofs
end

section
/-! PROOF. The statements of spec/30_encoding.md: command words, the reserved bits of a buffer, what an error frame is read for, and
the DLC tables. First the fields of a word and what the decoder answers, then what DECODE, ENCODE and LSM_CONSUME read and write,
then the statements. -/

namespace Sys2Proof

/-! ### The fields of a command word -/

/-- Concatenation puts the left part above the right part, as numbers. -/
theorem toNat_append_eq_add {m n : Nat} (x : BitVec m) (y : BitVec n) :
    (x ++ y).toNat = x.toNat * 2 ^ n + y.toNat := by
  rw [BitVec.toNat_append, ← Nat.shiftLeft_add_eq_or_of_lt y.isLt, Nat.shiftLeft_eq]

theorem opField_toNat (w : Word) : (opField w).toNat = w.toNat % 2 ^ 4 := by
  simp [opField]

theorem idxField_toNat (w : Word) : (idxField w).toNat = w.toNat / 2 ^ 8 % 2 ^ 8 := by
  simp [idxField, Nat.shiftRight_eq_div_pow]

theorem modeField_fd_toNat (w : Word) : (modeField w).fd.toNat = w.toNat / 2 ^ 4 % 2 := Nat.toNat_testBit _ _

theorem modeField_ts_toNat (w : Word) : (modeField w).ts.toNat = w.toNat / 2 ^ 5 % 2 := Nat.toNat_testBit _ _

theorem reservedClear_iff (w : Word) :
    reservedClear w = true ↔ w.toNat / 2 ^ 16 = 0 ∧ w.toNat / 2 ^ 6 % 2 ^ 2 = 0 := by
  simp only [reservedClear, Bool.and_eq_true, beq_iff_eq, BitVec.toNat_eq, BitVec.extractLsb'_toNat,
    Nat.shiftRight_eq_div_pow, BitVec.toNat_ofNat]
  omega

theorem idxClear_iff (w : Word) : idxClear w = true ↔ idxField w = 0 := beq_iff_eq

theorem modeClear_iff (w : Word) : modeClear w = true ↔ modeField w = noMode := by
  simp [modeClear, modeField, noMode]

/-- A command word as a number: each field at the weight of its lowest bit (R91). -/
theorem commandWord_toNat (op : BitVec 4) (mode : ChannelMode) (idx : BitVec 8) :
    (commandWord op mode idx).toNat =
      op.toNat + 2 ^ 4 * mode.fd.toNat + 2 ^ 5 * mode.ts.toNat + 2 ^ 8 * idx.toNat := by
  simp only [commandWord, toNat_append_eq_add, BitVec.toNat_ofBool, BitVec.toNat_ofNat]
  omega

/-- A word is the command word of its fields exactly when bits 31:16 and 7:6 are clear: the fields cover every other bit (R91). -/
theorem eq_commandWord_iff {w : Word} {op : BitVec 4} {mode : ChannelMode} {idx : BitVec 8} :
    w = commandWord op mode idx ↔
      reservedClear w = true ∧ opField w = op ∧ modeField w = mode ∧ idxField w = idx := by
  have hop := opField_toNat w
  have hidx := idxField_toNat w
  have hfd := modeField_fd_toNat w
  have hts := modeField_ts_toNat w
  rw [reservedClear_iff]
  constructor
  · intro h
    have hword := congrArg BitVec.toNat h
    rw [commandWord_toNat] at hword
    have hopLt := op.isLt
    have hidxLt := idx.isLt
    have hfdLe := mode.fd.toNat_le
    have htsLe := mode.ts.toNat_le
    have hinj : Function.Injective Bool.toNat := by decide
    refine ⟨by omega, BitVec.eq_of_toNat_eq (by omega), ?_, BitVec.eq_of_toNat_eq (by omega)⟩
    rw [ChannelMode.mk.injEq]
    exact ⟨hinj (by omega), hinj (by omega)⟩
  · rintro ⟨hreserved, rfl, rfl, rfl⟩
    apply BitVec.eq_of_toNat_eq
    rw [commandWord_toNat]
    omega

/-- The mode a command word is built with stands in its bits 4 and 5 (R93). -/
theorem mode_bits_of_eq_commandWord {w : Word} {op : BitVec 4} {mode : ChannelMode} {idx : BitVec 8}
    (h : w = commandWord op mode idx) :
    (mode.fd = true ↔ w.toNat / 2 ^ 4 % 2 = 1) ∧ (mode.ts = true ↔ w.toNat / 2 ^ 5 % 2 = 1) := by
  obtain ⟨_, _, rfl, _⟩ := eq_commandWord_iff.1 h
  rw [← modeField_fd_toNat, ← modeField_ts_toNat, Bool.toNat_eq_one, Bool.toNat_eq_one]
  exact ⟨Iff.rfl, Iff.rfl⟩

/-! ### What the decoder answers -/

/-- No bit of a word is set that is reserved for its op (R96). -/
def legalBits (w : Word) : Bool :=
  reservedClear w && (opField w == 0xB || idxClear w) && (opField w ≤ 3 || modeClear w)

/-- The reserved bits of R96 in arithmetic. -/
theorem legalBits_iff (w : Word) :
    legalBits w = true ↔
      w.toNat / 2 ^ 16 = 0 ∧ w.toNat / 2 ^ 6 % 4 = 0 ∧ (w.toNat % 16 = 0xB ∨ w.toNat / 2 ^ 8 % 256 = 0) ∧
        (w.toNat % 16 ≤ 3 ∨ w.toNat / 2 ^ 4 % 4 = 0) := by
  have hidx : idxClear w = true ↔ w.toNat / 2 ^ 8 % 256 = 0 := by
    rw [idxClear_iff, BitVec.toNat_eq, idxField_toNat]
    rfl
  have hmode : modeClear w = true ↔ w.toNat / 2 ^ 4 % 4 = 0 := by
    have hfd := modeField_fd_toNat w
    have hts := modeField_ts_toNat w
    rw [modeClear_iff, noMode, ChannelMode.mk.injEq, ← Bool.toNat_eq_zero, ← Bool.toNat_eq_zero]
    omega
  simp only [legalBits, Bool.and_eq_true, Bool.or_eq_true, beq_iff_eq, decide_eq_true_eq, reservedClear_iff, hidx, hmode,
    BitVec.toNat_eq, BitVec.le_def, opField_toNat, and_assoc]
  rfl

theorem acceptWhen_eq_ok {ok : Bool} {i j : Instr} : acceptWhen ok i = .ok j ↔ ok = true ∧ i = j := by
  unfold acceptWhen
  split <;> simp_all

/-- Everything the decoder can answer: BAD_OPCODE for a reserved op; for any other op the command of its row, accepted exactly when
no reserved bit is set, and then the word is that command's word (R92, R96, R254). -/
theorem decode_cases (w : Word) :
    (((opField w).toNat = 0 ∨ 12 ≤ (opField w).toNat) ∧ decode w = .error .badOpcode) ∨
    (0 < (opField w).toNat ∧ (opField w).toNat < 12 ∧
      ∃ i, decode w = acceptWhen (legalBits w) i ∧ (legalBits w = true → w = encode i)) := by
  have hfield : opField w = BitVec.ofNat 4 (opField w).toNat := by simp
  unfold decode
  generalize (opField w).toNat = op at hfield
  match op with
  | 0 => exact .inl ⟨.inl rfl, rfl⟩
  | 1 | 2 | 3 =>
    have hlegal : legalBits w = (reservedClear w && idxClear w) := by simp [legalBits, hfield]
    refine .inr ⟨by decide, by decide, _, congrArg (acceptWhen · _) hlegal.symm, ?_⟩
    simp_all [encode, eq_commandWord_iff, idxClear_iff]
  | 4 | 5 | 6 | 7 | 8 | 9 | 10 =>
    have hlegal : legalBits w = (reservedClear w && idxClear w && modeClear w) := by simp [legalBits, hfield]
    refine .inr ⟨by decide, by decide, _, congrArg (acceptWhen · _) hlegal.symm, ?_⟩
    simp_all [encode, eq_commandWord_iff, idxClear_iff, modeClear_iff]
  | 11 =>
    have hlegal : legalBits w = (reservedClear w && modeClear w) := by simp [legalBits, hfield]
    refine .inr ⟨by decide, by decide, _, congrArg (acceptWhen · _) hlegal.symm, ?_⟩
    simp_all [encode, eq_commandWord_iff, modeClear_iff]
  | op + 12 => exact .inl ⟨.inr (Nat.le_add_left 12 op), rfl⟩

/-- The per-command laws as one (R92). -/
theorem decode_encode (i : Instr) : decode (encode i) = .ok i := by
  cases i with
  | decode mode => exact Laws.RoundTrip.decode mode
  | encode mode => exact Laws.RoundTrip.encode mode
  | ingest mode => exact Laws.RoundTrip.ingest mode
  | tsObserve => exact Laws.RoundTrip.tsObserve
  | tsResync => exact Laws.RoundTrip.tsResync
  | lsmConsume => exact Laws.RoundTrip.lsmConsume
  | lsmStop => exact Laws.RoundTrip.lsmStop
  | lsmSleep => exact Laws.RoundTrip.lsmSleep
  | channelStart => exact Laws.RoundTrip.channelStart
  | stateRead => exact Laws.RoundTrip.stateRead
  | regRead idx => exact Laws.RoundTrip.regRead idx

theorem eq_encode_of_decode_eq_ok {w : Word} {i : Instr} (h : decode w = .ok i) : w = encode i := by
  rcases decode_cases w with ⟨_, herror⟩ | ⟨_, _, j, haccept, hword⟩
  · cases herror.symm.trans h
  · obtain ⟨hlegal, rfl⟩ := acceptWhen_eq_ok.1 (haccept.symm.trans h)
    exact hword hlegal

theorem decode_eq_ok_iff {w : Word} {i : Instr} : decode w = .ok i ↔ w = encode i :=
  ⟨eq_encode_of_decode_eq_ok, fun h => h ▸ decode_encode i⟩

/-! ### The masks of the opcode table -/

/-- Under a mask that keeps the op and the bits reserved in every word, a word is compared in its other fields as far as the mask
keeps them (R92). -/
theorem and_eq_commandWord_iff {w m : Word} {op : BitVec 4} {mode : ChannelMode} {idx : BitVec 8}
    (hop : opField m = BitVec.allOnes 4) (hmid : m.extractLsb' 6 2 = BitVec.allOnes 2)
    (hhigh : m.extractLsb' 16 16 = BitVec.allOnes 16) :
    w &&& m = commandWord op mode idx ↔
      reservedClear w = true ∧ opField w = op ∧
        ({ fd := (modeField w).fd && (modeField m).fd, ts := (modeField w).ts && (modeField m).ts } : ChannelMode) = mode ∧
        idxField w &&& idxField m = idx := by
  have hreserved : reservedClear (w &&& m) = reservedClear w := by
    simp only [reservedClear, BitVec.extractLsb'_and, hmid, hhigh, BitVec.and_allOnes]
  have hopField : opField (w &&& m) = opField w := by
    rw [opField, BitVec.extractLsb'_and, ← opField, ← opField, hop, BitVec.and_allOnes]
  simp only [eq_commandWord_iff, hreserved, hopField, modeField, idxField, BitVec.extractLsb'_and, BitVec.getLsbD_and]

/-- The mask of DECODE, ENCODE and INGEST leaves the mode free (R92, R93). -/
theorem and_modeMask_eq_iff {w : Word} {op : BitVec 4} :
    w &&& 0xFFFFFFCF = commandWord op noMode 0 ↔ ∃ mode, w = commandWord op mode 0 := by
  have hmode : modeField 0xFFFFFFCF = noMode := rfl
  have hidx (idx : BitVec 8) : idx &&& idxField 0xFFFFFFCF = idx := BitVec.and_allOnes
  rw [and_eq_commandWord_iff rfl rfl rfl]
  simp only [hmode, hidx, noMode, Bool.and_false, true_and, eq_commandWord_iff, exists_and_left, exists_eq_left']

/-- The mask of REG_READ leaves the register index free (R92, R94). -/
theorem and_idxMask_eq_iff {w : Word} {op : BitVec 4} :
    w &&& 0xFFFF00FF = commandWord op noMode 0 ↔ ∃ idx, w = commandWord op noMode idx := by
  have hmode : modeField 0xFFFF00FF = { fd := true, ts := true } := rfl
  have hidx (idx : BitVec 8) : idx &&& idxField 0xFFFF00FF = 0 := BitVec.and_zero
  rw [and_eq_commandWord_iff rfl rfl rfl]
  simp only [hmode, hidx, Bool.and_true, and_true, eq_commandWord_iff, exists_and_left, exists_eq']

end Sys2Proof

namespace Sys2Proof.Machine

/-! ### Illegal words -/

/-- Accepting an illegal word raises its cause, with the operands on the port (R254). -/
theorem State.issue_of_decode_eq_error (s : State) {word : Word} (ops : Operands) {k : IllegalCause}
    (h : Sys2Proof.decode word = .error k) : s.issue word ops = .next ((s.latch ops).raise (.illegalCommand k)) := by
  simp only [State.issue, h]

/-! ### The DLC tables -/

theorem dlc2len_of_len2dlc {fd : Bool} {n : BitVec 7} {code : Nat} (h : len2dlc fd n = some code) :
    dlc2len fd code = some n := by
  unfold len2dlc at h
  split at h
  next hle =>
    cases h
    simp [dlc2len, hle]
  next =>
    split at h
    next hfd =>
      subst hfd
      have hn : n = BitVec.ofNat 7 n.toNat := by simp
      generalize n.toNat = k at h hn
      subst hn
      split at h <;> cases h <;> rfl
    next => cases h

theorem len2dlc_of_dlc2len {fd : Bool} {n : BitVec 7} {code : Nat} (h : dlc2len fd code = some n) :
    len2dlc fd n = some code := by
  rcases dlc2len_cases h with ⟨hle, hn⟩ | ⟨rfl, hge, hle, htable⟩
  · simp [len2dlc, hn, hle]
  · interval_cases code <;> cases htable <;> rfl

/-! ### What ENCODE writes -/

/-- The bytes of a successful ENCODE are those of its frame, whose length has a code (R125). -/
theorem frameBytes_of_exec_encode {mode : ChannelMode} {s t : State} {bytes : List Byte}
    (h : exec (.encode mode) s = .next t)
    (hresult : t.result = some { result := .ok, outputs := .encoded bytes }) :
    ∃ code, len2dlc s.operands.frame.isFD (dataLength s.operands.frame) = some code ∧
      bytes = frameBytes mode s.operands.echoId s.operands.frame code := by
  cases h
  rcases encodeFrame_cases mode s.operands.echoId s.operands.frame with
    ⟨_, _, herror⟩ | ⟨_, _, herror⟩ | ⟨_, code, hcode, hok⟩
  · rw [herror] at hresult
    cases hresult
  · rw [herror] at hresult
    cases hresult
  · rw [hok] at hresult
    cases hresult
    exact ⟨code, hcode, rfl⟩

/-- The flags byte ENCODE writes has bits 7:4 zero (R80). -/
theorem packFlags_lt (f : CanFrame) : (packFlags f).toNat < 16 := by
  simp only [packFlags, toNat_append_eq_add, BitVec.toNat_ofNat]
  omega

/-! ### Buffers that differ in reserved bits only -/

/-- Two buffers of one length agree but for byte 11 and bits 7:4 of the flags byte (R79, R80). -/
structure AgreeUpToReserved (buf other : List Byte) : Prop where
  length_eq : other.length = buf.length
  byteAt_eq : ∀ i, i ≠ 10 → i ≠ 11 → byteAt other i = byteAt buf i
  flags_mod_eq : (flagsOf other).toNat % 2 ^ 4 = (flagsOf buf).toNat % 2 ^ 4

namespace AgreeUpToReserved

variable {buf other : List Byte}

/-- The words of the layout lie before the flags byte or after the header (R72). -/
theorem rd32_eq (h : AgreeUpToReserved buf other) {off : Nat} (hoff : off + 3 < 10 ∨ 11 < off) :
    rd32 other off = rd32 buf off := by
  have hbyte (k : Nat) (hk : k < 4) : byteAt other (off + k) = byteAt buf (off + k) :=
    h.byteAt_eq (off + k) (by omega) (by omega)
  have hlow : byteAt other off = byteAt buf off := hbyte 0 (by decide)
  simp only [rd32, hbyte 3 (by decide), hbyte 2 (by decide), hbyte 1 (by decide), hlow]

theorem flag_eq (h : AgreeUpToReserved buf other) {k : Nat} (hk : k < 4) :
    (flagsOf other).getLsbD k = (flagsOf buf).getLsbD k := by
  have hbit := congrArg (Nat.testBit · k) h.flags_mod_eq
  simp only [Nat.testBit_mod_two_pow, hk, decide_true, Bool.true_and] at hbit
  exact hbit

theorem drop_eq (h : AgreeUpToReserved buf other) : other.drop headerLength = buf.drop headerLength := by
  apply List.ext_getElem (by simp [h.length_eq])
  intro i hother hbuf
  rw [List.length_drop] at hother hbuf
  have hbyte : other.getD (headerLength + i) 0 = buf.getD (headerLength + i) 0 :=
    h.byteAt_eq (headerLength + i) (by simp only [headerLength]; omega) (by simp only [headerLength]; omega)
  rw [List.getD_eq_getElem _ _ (by omega), List.getD_eq_getElem _ _ (by omega)] at hbyte
  rw [List.getElem_drop, List.getElem_drop, hbyte]

theorem frameOf_eq (h : AgreeUpToReserved buf other) (dl : BitVec 7) : frameOf other dl = frameOf buf dl := by
  have hid : idWord other = idWord buf := h.rd32_eq (by decide)
  have hchannel : byteAt other 9 = byteAt buf 9 := h.byteAt_eq 9 (by decide) (by decide)
  simp only [frameOf, flagOverflow, flagFd, flagBrs, flagEsi, hid, hchannel, h.drop_eq,
    h.flag_eq (by decide : 0 < 4), h.flag_eq (by decide : 1 < 4), h.flag_eq (by decide : 2 < 4),
    h.flag_eq (by decide : 3 < 4)]

theorem decodeBody_eq (h : AgreeUpToReserved buf other) (mode : ChannelMode) (dl : BitVec 7) :
    decodeBody mode other dl = decodeBody mode buf dl := by
  have hid : idWord other = idWord buf := h.rd32_eq (by decide)
  have hecho : rd32 other 0 = rd32 buf 0 := h.rd32_eq (by decide)
  have hoffset : 11 < timestampOffset mode := Nat.lt_add_right _ (by decide : 11 < headerLength)
  simp only [decodeBody, h.length_eq, hid, hecho, h.rd32_eq (.inr hoffset), h.frameOf_eq]

/-- DECODE reads no reserved bit (R80, R110). -/
theorem decodeFrame_eq (h : AgreeUpToReserved buf other) (mode : ChannelMode) :
    decodeFrame mode other = decodeFrame mode buf := by
  have hcode : dlcCode other = dlcCode buf := congrArg BitVec.toNat (h.byteAt_eq 8 (by decide) (by decide))
  have hfd : flagFd (flagsOf other) = flagFd (flagsOf buf) := h.flag_eq (by decide)
  simp only [decodeFrame, h.length_eq, hcode, hfd, h.decodeBody_eq]

end AgreeUpToReserved

/-- Operands with a buffer that decodes alike give the same next state of DECODE, apart from the operands (R56, R117). -/
theorem exec_decode_latch {mode : ChannelMode} {s : State} {ops : Operands} (hfits : s.operands.bufferFits)
    (hfits' : ops.bufferFits) (hsame : decodeFrame mode ops.buf = decodeFrame mode s.operands.buf) :
    ∃ t, exec (.decode mode) s = .next t ∧ exec (.decode mode) (s.latch ops) = .next (t.latch ops) := by
  refine ⟨_, exec_decode_of_fits hfits, ?_⟩
  rw [exec_decode_of_fits (s := s.latch ops) hfits', State.latch_operands, hsame]
  cases decodeFrame mode s.operands.buf <;> rfl

/-! ### What LSM_CONSUME reads of a frame -/

/-- Numbers that agree in their low `k` bits are the same under the mask of these bits. -/
theorem and_eq_and_of_mod_eq {w k : Nat} (hk : k ≤ w) {x y : BitVec w} (h : x.toNat % 2 ^ k = y.toNat % 2 ^ k) :
    x &&& BitVec.ofNat w (2 ^ k - 1) = y &&& BitVec.ofNat w (2 ^ k - 1) := by
  apply BitVec.eq_of_toNat_eq
  have hmask : (2 ^ k - 1) % 2 ^ w = 2 ^ k - 1 :=
    Nat.mod_eq_of_lt ((Nat.sub_one_lt (by positivity)).trans_le (Nat.pow_le_pow_right (by decide) hk))
  rw [BitVec.toNat_and, BitVec.toNat_and, BitVec.toNat_ofNat, hmask, Nat.and_two_pow_sub_one_eq_mod, h,
    Nat.and_two_pow_sub_one_eq_mod]

/-- The level of a controller status byte does not read its bit 7 (R88, R184). -/
theorem levelCrtl_and_lowBits (b : Byte) : levelCrtl (b &&& 0x7F) = levelCrtl b := by
  simp [levelCrtl, BitVec.and_assoc]

theorem levelCrtl_eq_of_mod_eq {a b : Byte} (h : a.toNat % 2 ^ 7 = b.toNat % 2 ^ 7) : levelCrtl a = levelCrtl b := by
  have hlow : a &&& 0x7F = b &&& 0x7F := and_eq_and_of_mod_eq (k := 7) (by decide) h
  rw [← levelCrtl_and_lowBits a, hlow, levelCrtl_and_lowBits]

/-- Two frames give the link state machine the same evidence: all it reads of a frame (R90, R193). -/
structure SameEvidence (f g : CanFrame) : Prop where
  recognized_eq : recognized g = recognized f
  classBits_eq : classBits g = classBits f
  level_eq : levelCrtl (controllerStatus g) = levelCrtl (controllerStatus f)
  tx_eq : txCounterByte g = txCounterByte f
  rx_eq : rxCounterByte g = rxCounterByte f

namespace SameEvidence

variable {f g : CanFrame}

/-- Error frames of one length with the same class bits, counters and low status bits give the same evidence (R182, R193). -/
theorem of_isError (hf : f.isError = true) (hg : g.isError = true)
    (hlen : g.payload.length = f.payload.length) (hid : g.id.toNat % 2 ^ 29 = f.id.toNat % 2 ^ 29)
    (hstatus : (controllerStatus g).toNat % 2 ^ 7 = (controllerStatus f).toNat % 2 ^ 7)
    (htx : txCounterByte g = txCounterByte f) (hrx : rxCounterByte g = rxCounterByte f) : SameEvidence f g := by
  have hclass : classBits g = classBits f := and_eq_and_of_mod_eq (k := 29) (by decide) hid
  have hlength : dataLength g = dataLength f := BitVec.eq_of_toNat_eq hlen
  exact ⟨by simp only [recognized, hf, hg, hlength, hclass], hclass, levelCrtl_eq_of_mod_eq hstatus, htx, hrx⟩

theorem loadsCounters_eq (h : SameEvidence f g) (p : Params) : loadsCounters p g = loadsCounters p f := by
  simp only [loadsCounters, hasCnt, h.classBits_eq]

theorem candidates_eq (h : SameEvidence f g) (p : Params) (r : Registers) :
    candidateTx p g r = candidateTx p f r ∧ candidateRx p g r = candidateRx p f r := by
  simp only [candidateTx, candidateRx, h.loadsCounters_eq, h.tx_eq, h.rx_eq, and_self]

theorem levelNext_eq (h : SameEvidence f g) (p : Params) (r : Registers) : levelNext p g r = levelNext p f r := by
  obtain ⟨htx, hrx⟩ := h.candidates_eq p r
  have hcrtl : hasCrtl g = hasCrtl f := congrArg (· &&& 0x004 != 0) h.classBits_eq
  have hevidence : levelEvidence p g r = levelEvidence p f r := by
    simp only [levelEvidence, hcrtl, h.level_eq, h.loadsCounters_eq, htx, hrx]
  simp only [levelNext, hevidence]

theorem lsmNext_eq (h : SameEvidence f g) (p : Params) (r : Registers) : lsmNext p g r = lsmNext p f r := by
  obtain ⟨htx, hrx⟩ := h.candidates_eq p r
  have hbusOff : hasBusOff g = hasBusOff f := congrArg (· &&& 0x040 != 0) h.classBits_eq
  have hrestarted : hasRestarted g = hasRestarted f := congrArg (· &&& 0x100 != 0) h.classBits_eq
  simp only [lsmNext, hbusOff, hrestarted, htx, hrx, h.levelNext_eq]

theorem consume_eq (h : SameEvidence f g) (s : State) : s.consume g = s.consume f := by
  simp only [State.consume, h.recognized_eq, h.lsmNext_eq]

theorem consumeResult_eq (h : SameEvidence f g) : consumeResult g = consumeResult f := by
  simp only [consumeResult, h.recognized_eq]

end SameEvidence

/-- Feeding a frame to the state machine does not read the operand ports. -/
theorem State.consume_latch (s : State) (ops : Operands) (f : CanFrame) :
    (s.latch ops).consume f = (s.consume f).latch ops := by
  unfold State.consume
  split <;> rfl

/-- Operands with a frame of the same evidence give the same next state of LSM_CONSUME, apart from the operands (R193). -/
theorem exec_lsmConsume_latch {s : State} {ops : Operands} (h : SameEvidence s.operands.frame ops.frame) :
    ∃ t, exec .lsmConsume s = .next t ∧ exec .lsmConsume (s.latch ops) = .next (t.latch ops) := by
  refine ⟨(s.consume s.operands.frame).finish (consumeResult s.operands.frame) .none, rfl, ?_⟩
  calc exec .lsmConsume (s.latch ops)
      = .next (((s.latch ops).consume ops.frame).finish (consumeResult ops.frame) .none) := rfl
    _ = .next (((s.consume s.operands.frame).latch ops).finish (consumeResult s.operands.frame) .none) := by
        rw [h.consume_eq, h.consumeResult_eq, State.consume_latch]

end Sys2Proof.Machine

namespace Sys2Proof.Proofs

open Sys2Proof.Machine

/-- Settles O1: the decoder accepts the row of the op only when the word is that command's word, and the laws give the converse. -/
theorem commandWordDecodesExactlyWhenEncoded : Obligations.CommandWordDecodesExactlyWhenEncoded :=
  fun _ _ => decode_eq_ok_iff

/-- Settles O2: by O1 a row's command is its words, which the row's mask tells from all others field by field. -/
theorem opcodeTableRowsSelectTheirCommands : Obligations.OpcodeTableRowsSelectTheirCommands := by
  intro w
  have hfull (v : Word) : w &&& 0xFFFFFFFF = v ↔ w = v := by
    rw [show (0xFFFFFFFF : Word) = BitVec.allOnes 32 from rfl, BitVec.and_allOnes]
  simp only [decode_eq_ok_iff, hfull]
  refine ⟨and_modeMask_eq_iff (op := 0x1), and_modeMask_eq_iff (op := 0x2), and_modeMask_eq_iff (op := 0x3),
    Iff.rfl, Iff.rfl, Iff.rfl, Iff.rfl, Iff.rfl, Iff.rfl, Iff.rfl, and_idxMask_eq_iff (op := 0xB), fun hop => ?_⟩
  rcases decode_cases w with ⟨_, herror⟩ | ⟨hpos, hlt, _⟩
  · exact herror
  · rw [opField_toNat] at hpos hlt
    omega

/-- Settles O4: the decoder's cases, with the reserved bits in the statement's arithmetic; a rejected word only raises its cause. -/
theorem illegalWordsRaiseAndWriteNothing : Obligations.IllegalWordsRaiseAndWriteNothing := by
  intro s w ops rest hinputs op reserved ends
  have hop : (opField w).toNat = op := opField_toNat w
  have hlegal : legalBits w = true ↔ ¬ reserved := by
    rw [legalBits_iff]
    omega
  have hraise {k : IllegalCause} (h : decode w = .error k) : ends k :=
    (step_of_inputs_cons hinputs).trans (State.issue_of_decode_eq_error _ ops h)
  rcases decode_cases w with ⟨hrange, herror⟩ | ⟨hpos, hlt, i, haccept, _⟩
  · rw [hop] at hrange
    exact ⟨fun _ => hraise herror, by omega, by omega⟩
  · rw [hop] at hpos hlt
    refine ⟨by omega, fun ⟨_, _, hset⟩ => hraise ?_, fun ⟨_, _, hclear⟩ => ⟨i, ?_⟩⟩
    · rw [haccept, Bool.eq_false_iff.2 (mt hlegal.1 (not_not_intro hset))]
      rfl
    · rw [haccept, hlegal.2 hclear]
      rfl

/-- Settles O13: DECODE of buffers that agree up to the reserved bits is the same, and ENCODE's header is written out. -/
theorem reservedHeaderBitsNeverAffectAResult : Obligations.ReservedHeaderBitsNeverAffectAResult := by
  refine ⟨fun mode s other hfits hlen hbytes hflags => ?_, fun mode s t bytes hexec hresult => ?_⟩
  · have hagree : AgreeUpToReserved s.operands.buf other := ⟨hlen, hbytes, hflags⟩
    exact exec_decode_latch (ops := { s.operands with buf := other }) hfits (hlen.trans_le hfits)
      (hagree.decodeFrame_eq mode)
  · obtain ⟨code, _, rfl⟩ := frameBytes_of_exec_encode hexec hresult
    exact ⟨rfl, packFlags_lt s.operands.frame⟩

/-- Settles O29: the two frames give the same evidence, and the state machine reads nothing else of a frame. -/
theorem consumeReadsStatusAndCountersOnly : Obligations.ConsumeReadsStatusAndCountersOnly := by
  intro s g f hf hg hflen hglen hid hstatus htx hrx
  have hsame : SameEvidence f g := .of_isError hf hg (hglen.trans hflen.symm) hid hstatus htx hrx
  exact exec_lsmConsume_latch (ops := { s.operands with frame := g }) hsame

/-- Settles O3: the three words are command words of their mode, and ENCODE's layout follows `fd` alone. -/
theorem modeBitsAreTheChannelMode : Obligations.ModeBitsAreTheChannelMode := by
  refine ⟨fun w mode h => ?_, fun fd s => rfl⟩
  rcases h with h | h | h
  all_goals exact mode_bits_of_eq_commandWord (eq_encode_of_decode_eq_ok h)

/-- Settles O5: each word is the encoded word of its command. -/
theorem exampleWordsDecodeToTheirCommands : Obligations.ExampleWordsDecodeToTheirCommands :=
  ⟨decode_encode (.ingest ⟨false, true⟩), decode_encode (.regRead 8), decode_encode (.decode ⟨true, false⟩),
    decode_encode (.encode ⟨true, false⟩), decode_encode .tsObserve, decode_encode .tsResync, decode_encode .lsmConsume,
    decode_encode .lsmStop, decode_encode .lsmSleep, decode_encode .channelStart, decode_encode .stateRead⟩

/-- Settles O18: the tables by their entries, and each inverts the other on its own cases. -/
theorem dlcTablesInvertEachOther : Obligations.DlcTablesInvertEachOther := by
  refine ⟨rfl, fun code hle fd => ⟨BitVec.ofNat 7 code, if_pos hle, ?_⟩, fun code hlt => ?_,
    fun fd n code => ⟨dlc2len_of_len2dlc, len2dlc_of_dlc2len⟩⟩
  · rw [BitVec.toNat_ofNat]
    omega
  · simp [dlc2len, Nat.not_le.2 hlt]

end Sys2Proof.Proofs
end

section
/-! PROOF. The statements of spec/40_codec.md: DECODE and ENCODE in the rules' arithmetic, the two round-trip laws, and the routing of
an encoded frame. First the words, flags and lengths of a wire frame as numbers, then the bytes of an outbound frame, then what
DECODE and ENCODE answer, check by check, then what each makes of the other's output, then the statements. -/

namespace Sys2Proof.Machine

/-! ### Bytes and words of a buffer -/

/-- Bytes combine little-endian (R53). -/
theorem rd32_toNat (buf : List Byte) (off : Nat) :
    (rd32 buf off).toNat =
      (byteAt buf off).toNat + 2 ^ 8 * (byteAt buf (off + 1)).toNat + 2 ^ 16 * (byteAt buf (off + 2)).toNat
        + 2 ^ 24 * (byteAt buf (off + 3)).toNat := by
  simp only [rd32, toNat_append_eq_add]
  omega

theorem rd32_eq_ofNat (buf : List Byte) (off : Nat) :
    rd32 buf off = BitVec.ofNat 32
      ((byteAt buf off).toNat + 2 ^ 8 * (byteAt buf (off + 1)).toNat + 2 ^ 16 * (byteAt buf (off + 2)).toNat
        + 2 ^ 24 * (byteAt buf (off + 3)).toNat) := by
  rw [← rd32_toNat, BitVec.ofNat_toNat, BitVec.setWidth_eq]

/-- Byte `k` of a written word stands for its bits from `8 * k` on (R53). -/
theorem byteAt_wr32_toNat (v : Word) {k : Nat} (hk : k < 4) :
    (byteAt (wr32 v) k).toNat = v.toNat / 2 ^ (8 * k) % 256 := by
  rw [← Nat.shiftRight_eq_div_pow]
  interval_cases k <;> exact BitVec.extractLsb'_toNat ..

/-- What is written is read back (R53). -/
theorem rd32_wr32 (v : Word) : rd32 (wr32 v) 0 = v := by
  apply BitVec.eq_of_toNat_eq
  have hbyte {k : Nat} (hk : k < 4) := byteAt_wr32_toNat v hk
  rw [rd32_toNat, hbyte (by decide : 0 < 4), hbyte (by decide : 1 < 4), hbyte (by decide : 2 < 4),
    hbyte (by decide : 3 < 4)]
  omega

/-- What is read is written back (R53). -/
theorem wr32_rd32 (buf : List Byte) (off : Nat) :
    wr32 (rd32 buf off) = [byteAt buf off, byteAt buf (off + 1), byteAt buf (off + 2), byteAt buf (off + 3)] := by
  have hword := rd32_toNat buf off
  simp only [wr32, List.cons.injEq, and_true, BitVec.toNat_eq, BitVec.extractLsb'_toNat, Nat.shiftRight_eq_div_pow]
  omega

theorem rd32_append_right {l : List Byte} {off : Nat} (h : l.length = off) (l' : List Byte) :
    rd32 (l ++ l') off = rd32 l' 0 := by
  have hbyte (k : Nat) : byteAt (l ++ l') (off + k) = byteAt l' k := by
    rw [byteAt, List.getD_append_right _ _ _ _ (by omega), h, Nat.add_sub_cancel_left, byteAt]
  simp only [rd32, hbyte 3, hbyte 2, hbyte 1, show byteAt (l ++ l') off = byteAt l' 0 from hbyte 0]

theorem byteAt_append_left {l : List Byte} {i : Nat} (h : i < l.length) (l' : List Byte) :
    byteAt (l ++ l') i = byteAt l i := List.getD_append l l' 0 i h

theorem rd32_append_left {l : List Byte} {off : Nat} (h : off + 3 < l.length) (l' : List Byte) :
    rd32 (l ++ l') off = rd32 l off := by
  have hbyte {i : Nat} (hi : i ≤ off + 3) : byteAt (l ++ l') i = byteAt l i := byteAt_append_left (by omega) l'
  simp only [rd32, hbyte (Nat.le_refl _), hbyte (by omega : off + 2 ≤ off + 3), hbyte (by omega : off + 1 ≤ off + 3),
    hbyte (by omega : off ≤ off + 3)]

/-- Zeros after the last byte are what is read past the end. -/
theorem byteAt_append_replicate_zero (l : List Byte) (n i : Nat) :
    byteAt (l ++ List.replicate n 0) i = byteAt l i := by
  rcases Nat.lt_or_ge i l.length with h | h
  · exact byteAt_append_left h _
  · simp [byteAt, List.getElem?_append_right h, List.getElem?_eq_none h]

/-- Bytes taken from an offset on, read one by one. -/
theorem take_drop_eq_map_range {buf : List Byte} {off n : Nat} (h : n ≤ buf.length - off) :
    (buf.drop off).take n = (List.range n).map fun i => byteAt buf (off + i) := by
  apply List.ext_getElem (by simpa using h)
  intro i hi _
  have hlt : off + i < buf.length := by
    rw [List.length_take, List.length_drop] at hi
    omega
  simp [byteAt, List.getElem?_eq_getElem hlt]

/-! ### The id word -/

theorem canIdExtended_toNat (cid : Word) : (canIdExtended cid).toNat = cid.toNat / 2 ^ 31 % 2 := Nat.toNat_testBit _ _

theorem canIdRemote_toNat (cid : Word) : (canIdRemote cid).toNat = cid.toNat / 2 ^ 30 % 2 := Nat.toNat_testBit _ _

theorem canIdError_toNat (cid : Word) : (canIdError cid).toNat = cid.toNat / 2 ^ 29 % 2 := Nat.toNat_testBit _ _

theorem canIdNumber_toNat (cid : Word) : (canIdNumber cid).toNat = cid.toNat % 2 ^ 29 := by
  rw [canIdNumber, BitVec.toNat_and]
  exact Nat.and_two_pow_sub_one_eq_mod _ 29

/-- The mask of bits 28:11, in arithmetic. -/
theorem and_wideMask_eq_zero_iff (cid : Word) : cid &&& 0x1FFFF800 = 0 ↔ cid.toNat % 2 ^ 29 / 2 ^ 11 = 0 := by
  have hlow : (cid.toNat &&& 0x1FFFF800) % 2 ^ 11 = 0 := Nat.and_mod_two_pow.trans (Nat.and_zero _)
  have hhigh : (cid.toNat &&& 0x1FFFF800) / 2 ^ 11 = cid.toNat / 2 ^ 11 % 2 ^ 18 :=
    Nat.and_div_two_pow.trans (Nat.and_two_pow_sub_one_eq_mod _ 18)
  have hand : cid &&& 0x1FFFF800 = 0 ↔ cid.toNat &&& 0x1FFFF800 = 0 := BitVec.toNat_eq
  rw [hand]
  omega

/-- An id word is rejected when bit 31 is clear and a bit of 28:11 is set (R76, R116). -/
theorem canIdTooWide_iff (cid : Word) :
    canIdTooWide cid = true ↔ cid.toNat / 2 ^ 31 = 0 ∧ cid.toNat % 2 ^ 29 / 2 ^ 11 ≠ 0 := by
  have hext : canIdExtended cid = false ↔ cid.toNat / 2 ^ 31 = 0 := by
    rw [← Bool.toNat_eq_zero, canIdExtended_toNat]
    omega
  rw [canIdTooWide, Bool.and_eq_true, Bool.not_eq_true', hext, bne_iff_ne, ne_eq, and_wideMask_eq_zero_iff]

theorem flagAt_toNat (b : Bool) {k : Nat} (hk : k < 32) : (flagAt b k).toNat = 2 ^ k * b.toNat := by
  cases b
  · simp [flagAt]
  · simpa [flagAt, Nat.shiftLeft_eq] using Nat.mod_eq_of_lt (Nat.pow_lt_pow_right Nat.one_lt_two hk)

theorem and_idMask_toNat (id : Word) (isExtended : Bool) :
    (id &&& idMask isExtended).toNat = id.toNat % (if isExtended then 2 ^ 29 else 2 ^ 11) := by
  rw [BitVec.toNat_and]
  cases isExtended
  · exact Nat.and_two_pow_sub_one_eq_mod _ 11
  · exact Nat.and_two_pow_sub_one_eq_mod _ 29

theorem mod_idRange_lt (n : Nat) (isExtended : Bool) : n % (if isExtended then 2 ^ 29 else 2 ^ 11) < 2 ^ 29 := by
  split <;> omega

/-- The id word ENCODE writes: three flags on top of the masked id (R75). -/
theorem packCanId_toNat (f : CanFrame) :
    (packCanId f).toNat =
      f.isExtended.toNat * 2 ^ 31 + f.isRemote.toNat * 2 ^ 30 + f.isError.toNat * 2 ^ 29
        + f.id.toNat % (if f.isExtended then 2 ^ 29 else 2 ^ 11) := by
  have hid := mod_idRange_lt f.id.toNat f.isExtended
  have hremote := f.isRemote.toNat_le
  have herror := f.isError.toNat_le
  simp only [packCanId, BitVec.toNat_or, flagAt_toNat _ (by decide : 31 < 32), flagAt_toNat _ (by decide : 30 < 32),
    flagAt_toNat _ (by decide : 29 < 32), and_idMask_toNat, Nat.or_assoc]
  rw [← Nat.two_pow_add_eq_or_of_lt hid, ← Nat.two_pow_add_eq_or_of_lt (i := 30) (by omega),
    ← Nat.two_pow_add_eq_or_of_lt (i := 31) (by omega)]
  omega

theorem bool_eq_of_toNat_eq {a b : Bool} (h : a.toNat = b.toNat) : a = b := by
  revert a b
  decide

theorem eq_true_iff_of_toNat_eq {b : Bool} {n : Nat} (h : b.toNat = n) : b = true ↔ n = 1 := by
  rw [← h, Bool.toNat_eq_one]

/-- The three flags are read back from the id word ENCODE writes (R74, R75). -/
theorem canIdFlags_packCanId (f : CanFrame) :
    canIdExtended (packCanId f) = f.isExtended ∧ canIdRemote (packCanId f) = f.isRemote ∧
      canIdError (packCanId f) = f.isError := by
  have hword := packCanId_toNat f
  have hid := mod_idRange_lt f.id.toNat f.isExtended
  have hext := f.isExtended.toNat_le
  have hremote := f.isRemote.toNat_le
  have herror := f.isError.toNat_le
  refine ⟨bool_eq_of_toNat_eq ?_, bool_eq_of_toNat_eq ?_, bool_eq_of_toNat_eq ?_⟩
  · rw [canIdExtended_toNat]
    omega
  · rw [canIdRemote_toNat]
    omega
  · rw [canIdError_toNat]
    omega

/-- Below the flags stands the masked id (R75). -/
theorem canIdNumber_packCanId (f : CanFrame) :
    (canIdNumber (packCanId f)).toNat = f.id.toNat % (if f.isExtended then 2 ^ 29 else 2 ^ 11) := by
  have hword := packCanId_toNat f
  have hid := mod_idRange_lt f.id.toNat f.isExtended
  rw [canIdNumber_toNat]
  omega

/-- ENCODE never writes an id that DECODE rejects (R136). -/
theorem canIdTooWide_packCanId (f : CanFrame) : canIdTooWide (packCanId f) = false := by
  have hnumber := canIdNumber_packCanId f
  have hflag := (canIdFlags_packCanId f).1
  rw [canIdNumber_toNat] at hnumber
  cases hext : f.isExtended with
  | true => simp [canIdTooWide, hflag, hext]
  | false =>
    rw [Bool.eq_false_iff, ne_eq, canIdTooWide_iff, hnumber, hext]
    rintro ⟨-, hwide⟩
    exact hwide (Nat.div_eq_of_lt (Nat.mod_lt _ (by decide)))

/-- The fields read from an accepted id word make the same word again (R74 to R76). -/
theorem packCanId_frameOf {buf : List Byte} (dl : BitVec 7) (hfit : canIdTooWide (idWord buf) = false) :
    packCanId (frameOf buf dl) = idWord buf := by
  apply BitVec.eq_of_toNat_eq
  have hext := canIdExtended_toNat (idWord buf)
  have hwide : ¬ _ := mt (canIdTooWide_iff (idWord buf)).2 (Bool.eq_false_iff.1 hfit)
  simp only [packCanId_toNat, frameOf, canIdRemote_toNat, canIdError_toNat, canIdNumber_toNat]
  cases hflag : canIdExtended (idWord buf) <;> simp only [hflag, Bool.toNat_true, Bool.toNat_false] at hext ⊢
  · simp only [Bool.false_eq_true, if_false]
    omega
  · simp only [if_true]
    omega

/-! ### The flags byte -/

theorem flagOverflow_toNat (fl : Byte) : (flagOverflow fl).toNat = fl.toNat % 2 :=
  (Nat.toNat_testBit fl.toNat 0).trans (by rw [Nat.pow_zero, Nat.div_one])

theorem flagFd_toNat (fl : Byte) : (flagFd fl).toNat = fl.toNat / 2 % 2 := Nat.toNat_testBit _ _

theorem flagBrs_toNat (fl : Byte) : (flagBrs fl).toNat = fl.toNat / 4 % 2 := Nat.toNat_testBit _ _

theorem flagEsi_toNat (fl : Byte) : (flagEsi fl).toNat = fl.toNat / 8 % 2 := Nat.toNat_testBit _ _

/-- The flags byte ENCODE writes, flag by flag (R79). -/
theorem packFlags_toNat (f : CanFrame) :
    (packFlags f).toNat =
      f.overflowFlag.toNat + 2 * f.isFD.toNat + 4 * f.bitrateSwitch.toNat + 8 * f.errorStateIndicator.toNat := by
  simp only [packFlags, toNat_append_eq_add, BitVec.toNat_ofBool, BitVec.toNat_ofNat]
  omega

/-- The flags are read back from the byte ENCODE writes (R79). -/
theorem flags_packFlags (f : CanFrame) :
    flagOverflow (packFlags f) = f.overflowFlag ∧ flagFd (packFlags f) = f.isFD ∧
      flagBrs (packFlags f) = f.bitrateSwitch ∧ flagEsi (packFlags f) = f.errorStateIndicator := by
  have hbyte := packFlags_toNat f
  have hovf := f.overflowFlag.toNat_le
  have hfd := f.isFD.toNat_le
  have hbrs := f.bitrateSwitch.toNat_le
  have hesi := f.errorStateIndicator.toNat_le
  refine ⟨bool_eq_of_toNat_eq ?_, bool_eq_of_toNat_eq ?_, bool_eq_of_toNat_eq ?_, bool_eq_of_toNat_eq ?_⟩
  · rw [flagOverflow_toNat]
    omega
  · rw [flagFd_toNat]
    omega
  · rw [flagBrs_toNat]
    omega
  · rw [flagEsi_toNat]
    omega

/-- The flags read from a byte with bits 7:4 clear make the same byte again (R79, R80). -/
theorem packFlags_frameOf {buf : List Byte} (dl : BitVec 7) (hreserved : (flagsOf buf).toNat < 16) :
    packFlags (frameOf buf dl) = flagsOf buf := by
  apply BitVec.eq_of_toNat_eq
  simp only [packFlags_toNat, frameOf, flagOverflow_toNat, flagFd_toNat, flagBrs_toNat, flagEsi_toNat]
  omega

/-! ### Lengths and DLC codes -/

/-- The data length of every code that passes the checks of R110, from the table (R83, R84). -/
theorem dlc2len_eq_some {fd : Bool} {code : Nat} (hcode : code ≤ 15) (hfd : 8 < code → fd = true) :
    ∃ n, dlc2len fd code = some n ∧
      n.toNat = if code ≤ 8 then code else [12, 16, 20, 24, 32, 48, 64].getD (code - 9) 0 := by
  rcases Nat.lt_or_ge 8 code with hlong | hshort
  · rw [hfd hlong]
    interval_cases code <;> exact ⟨_, rfl, rfl⟩
  · refine ⟨BitVec.ofNat 7 code, if_pos hshort, ?_⟩
    rw [if_pos hshort, BitVec.toNat_ofNat]
    omega

theorem dlc2len_classic_eq_none {code : Nat} (h : 8 < code) : dlc2len false code = none := by
  simp [dlc2len, Nat.not_le.2 h]

/-- The lengths with a code, and their codes (R85). -/
theorem len2dlc_eq_ite (fd : Bool) (n : BitVec 7) :
    len2dlc fd n =
      if n.toNat ≤ 8 ∨ (fd = true ∧ n.toNat ∈ [12, 16, 20, 24, 32, 48, 64]) then
        some (if n.toNat ≤ 8 then n.toNat else 9 + [12, 16, 20, 24, 32, 48, 64].idxOf n.toNat)
      else none := by
  unfold len2dlc
  split
  next hshort => simp [hshort]
  next hlong =>
    cases fd with
    | false => simp [hlong]
    | true =>
      generalize n.toNat = k at hlong ⊢
      rw [if_pos rfl]
      split
      case h_8 => simp_all
      all_goals rfl

/-- A length with a code fits the payload field of every mode that carries the frame (R13, R83 to R85). -/
theorem le_payloadFieldSize {mode : ChannelMode} {fd : Bool} {n : BitVec 7} {code : Nat}
    (hcode : len2dlc fd n = some code) (hfd : fd = true → mode.fd = true) : n.toNat ≤ payloadFieldSize mode := by
  cases fd with
  | true => simpa [payloadFieldSize, hfd rfl] using le_of_len2dlc_eq_some hcode
  | false =>
    have hshort : n.toNat ≤ 8 := by
      by_contra hlong
      simp [len2dlc, hlong] at hcode
    exact hshort.trans (by unfold payloadFieldSize; split <;> decide)

theorem timestampOffset_eq (mode : ChannelMode) : timestampOffset mode = 12 + if mode.fd then 64 else 8 := rfl

theorem timestampOffset_le (mode : ChannelMode) : timestampOffset mode ≤ 76 := by
  rw [timestampOffset_eq]
  split <;> decide

/-- A whole wire frame of any mode is no longer than `P_MAX_BUF_LEN` (R52, R71). -/
theorem bufferFits_of_length_le {o : Operands} (h : o.buf.length ≤ 80) : o.bufferFits :=
  h.trans (Nat.le_add_left 80 _)

/-! ### The bytes of an outbound frame -/

section FrameBytes

variable (mode : ChannelMode) (e : Word) (f : CanFrame) (code : Nat)

theorem frameBytes_drop_header :
    (frameBytes mode e f code).drop headerLength =
      f.payload ++ List.replicate (payloadFieldSize mode - f.payload.length) 0 := rfl

theorem byteAt_frameBytes_echoId (k : Nat) (hk : k < 4) :
    byteAt (frameBytes mode e f code) k = byteAt (wr32 e) k := by
  interval_cases k <;> rfl

theorem byteAt_frameBytes_canId (k : Nat) (hk : k < 4) :
    byteAt (frameBytes mode e f code) (4 + k) = byteAt (wr32 (packCanId f)) k := by
  interval_cases k <;> rfl

theorem byteAt_frameBytes_payload (i : Nat) :
    byteAt (frameBytes mode e f code) (headerLength + i) = byteAt f.payload i := by
  rw [← byteAt_append_replicate_zero f.payload (payloadFieldSize mode - f.payload.length) i,
    ← frameBytes_drop_header mode e f code]
  simp [byteAt]

variable {mode f}

theorem frameBytes_length (h : f.payload.length ≤ payloadFieldSize mode) :
    (frameBytes mode e f code).length = timestampOffset mode := by
  simp only [frameBytes, wr32, timestampOffset, headerLength, List.length_append, List.length_cons, List.length_nil,
    List.length_replicate, dataLength_toNat]
  omega

end FrameBytes

/-! ### DECODE, check by check -/

theorem exec_decode_of_ok {mode : ChannelMode} {s : State} {d : Decoded} (hfits : s.operands.bufferFits)
    (h : decodeFrame mode s.operands.buf = .ok d) :
    exec (.decode mode) s = .next ((s.putFrame d.frame).finish .ok (.decoded d)) := by
  rw [exec_decode_of_fits hfits, h]

theorem exec_decode_of_error {mode : ChannelMode} {s : State} {k : MalformedCause} (hfits : s.operands.bufferFits)
    (h : decodeFrame mode s.operands.buf = .error k) :
    exec (.decode mode) s = .next (s.raise (.malformedFrame k)) := by
  rw [exec_decode_of_fits hfits, h]

/-- A successful DECODE is known by its result record (R251). -/
theorem decodeFrame_of_exec_decode {mode : ChannelMode} {s t : State} {d : Decoded}
    (h : exec (.decode mode) s = .next t) (hresult : t.result = some { result := .ok, outputs := .decoded d }) :
    decodeFrame mode s.operands.buf = .ok d := by
  obtain ⟨-, rfl⟩ := State.withBuffer_eq_next.1 h
  split at hresult
  next d' hd => cases hresult; exact hd
  next => cases hresult

section Checks

variable {mode : ChannelMode} {buf : List Byte}

theorem decodeFrame_eq_shortHeader (h : buf.length < headerLength) : decodeFrame mode buf = .error .shortHeader := if_pos h

theorem decodeFrame_eq_badDlc_of_code (hheader : headerLength ≤ buf.length) (hcode : 15 < dlcCode buf) :
    decodeFrame mode buf = .error .badDlc := by
  rw [decodeFrame, if_neg (Nat.not_lt.2 hheader), if_pos hcode]

theorem decodeFrame_eq_fdNotEnabled (hheader : headerLength ≤ buf.length) (hcode : dlcCode buf ≤ 15)
    (hfd : flagFd (flagsOf buf) = true) (hmode : mode.fd = false) : decodeFrame mode buf = .error .fdNotEnabled := by
  rw [decodeFrame, if_neg (Nat.not_lt.2 hheader), if_neg (Nat.not_lt.2 hcode), if_pos (by rw [hfd, hmode]; rfl)]

/-- A classic frame has no code above 8 (R84, R112). -/
theorem decodeFrame_eq_badDlc_of_classic (hheader : headerLength ≤ buf.length) (hcode : dlcCode buf ≤ 15)
    (hfd : flagFd (flagsOf buf) = false) (hclassic : 8 < dlcCode buf) : decodeFrame mode buf = .error .badDlc := by
  rw [decodeFrame, if_neg (Nat.not_lt.2 hheader), if_neg (Nat.not_lt.2 hcode), hfd, dlc2len_classic_eq_none hclassic]
  rfl

variable {dl : BitVec 7}

/-- Past the checks of the header, the data length decides (R110). -/
theorem decodeFrame_eq_decodeBody (hheader : headerLength ≤ buf.length) (hcode : dlcCode buf ≤ 15)
    (hfd : flagFd (flagsOf buf) = true → mode.fd = true)
    (hdl : dlc2len (flagFd (flagsOf buf)) (dlcCode buf) = some dl) : decodeFrame mode buf = decodeBody mode buf dl := by
  have hmode : ¬ (flagFd (flagsOf buf) && !mode.fd) = true := by simpa using hfd
  rw [decodeFrame, if_neg (Nat.not_lt.2 hheader), if_neg (Nat.not_lt.2 hcode), if_neg hmode, hdl]

theorem decodeBody_eq_shortPayload (h : buf.length - headerLength < dl.toNat) :
    decodeBody mode buf dl = .error .shortPayload := if_pos h

theorem decodeBody_eq_shortTimestamp (hpayload : dl.toNat ≤ buf.length - headerLength) (hts : mode.ts = true)
    (hshort : buf.length < timestampOffset mode + 4) : decodeBody mode buf dl = .error .shortTimestamp := by
  rw [decodeBody, if_neg (Nat.not_lt.2 hpayload), if_pos (by simpa [hts] using hshort)]

/-- Past the checks of the length, the id decides (R110, R116). -/
theorem decodeBody_eq_ite (hpayload : dl.toNat ≤ buf.length - headerLength)
    (htimestamp : mode.ts = true → timestampOffset mode + 4 ≤ buf.length) :
    decodeBody mode buf dl =
      if canIdTooWide (idWord buf) then .error .badId
      else .ok { echoId := rd32 buf 0, frame := frameOf buf dl,
                 rawTs := if mode.ts then some (rd32 buf (timestampOffset mode)) else none } := by
  have hts : ¬ (mode.ts && decide (buf.length < timestampOffset mode + 4)) = true := by simpa using htimestamp
  rw [decodeBody, if_neg (Nat.not_lt.2 hpayload), if_neg hts]

end Checks

/-- A too wide standard id never decodes (R116, R127). -/
theorem decodeFrame_error_of_canIdTooWide {mode : ChannelMode} {buf : List Byte} (h : canIdTooWide (idWord buf) = true) :
    ∃ k, decodeFrame mode buf = .error k := by
  cases hdecode : decodeFrame mode buf with
  | error k => exact ⟨k, rfl⟩
  | ok d =>
    obtain ⟨_, _, _, dl, _, hbody⟩ := decodeFrame_ok hdecode
    obtain ⟨_, _, hid, _⟩ := decodeBody_ok hbody
    exact absurd (hid.symm.trans h) Bool.false_ne_true

/-! ### Bytes past the layout -/

/-- The whole layout of the mode stands in a buffer (R71). -/
abbrev HoldsLayout (mode : ChannelMode) (buf : List Byte) : Prop := inboundLength mode ≤ buf.length

section Layout

variable {mode : ChannelMode} {buf : List Byte} (h : HoldsLayout mode buf) (extra : List Byte)
include h

theorem HoldsLayout.offset_le : timestampOffset mode ≤ buf.length := (Nat.le_add_right _ _).trans h

theorem HoldsLayout.timestamp_le (hts : mode.ts = true) : timestampOffset mode + 4 ≤ buf.length := by
  simpa [HoldsLayout, inboundLength, hts] using h

/-- The header and the payload field are the same under more bytes. -/
theorem HoldsLayout.byteAt_append {i : Nat} (hi : i < timestampOffset mode) : byteAt (buf ++ extra) i = byteAt buf i :=
  byteAt_append_left (hi.trans_le h.offset_le) extra

theorem HoldsLayout.rd32_header_append {off : Nat} (hoff : off + 3 < headerLength) :
    rd32 (buf ++ extra) off = rd32 buf off :=
  rd32_append_left (hoff.trans_le ((Nat.le_add_right _ _).trans h.offset_le)) extra

theorem HoldsLayout.frameOf_append {dl : BitVec 7} (hdl : dl.toNat ≤ payloadFieldSize mode) :
    frameOf (buf ++ extra) dl = frameOf buf dl := by
  have hlen : headerLength + payloadFieldSize mode ≤ buf.length := h.offset_le
  have hid : idWord (buf ++ extra) = idWord buf := h.rd32_header_append extra (by decide)
  have hchannel : byteAt (buf ++ extra) 9 = byteAt buf 9 :=
    h.byteAt_append extra (Nat.lt_add_right _ (by decide : 9 < headerLength))
  have hflags : flagsOf (buf ++ extra) = flagsOf buf :=
    h.byteAt_append extra (Nat.lt_add_right _ (by decide : 10 < headerLength))
  have hpayload : ((buf ++ extra).drop headerLength).take dl.toNat = (buf.drop headerLength).take dl.toNat := by
    rw [List.drop_append_of_le_length (by omega), List.take_append_of_le_length (by rw [List.length_drop]; omega)]
  simp only [frameOf, hid, hchannel, hflags, hpayload]

theorem HoldsLayout.decodeBody_append {dl : BitVec 7} (hdl : dl.toNat ≤ payloadFieldSize mode) :
    decodeBody mode (buf ++ extra) dl = decodeBody mode buf dl := by
  have hlen : headerLength + payloadFieldSize mode ≤ buf.length := h.offset_le
  have hlen' : buf.length ≤ (buf ++ extra).length := by simp
  have hid : idWord (buf ++ extra) = idWord buf := h.rd32_header_append extra (by decide)
  have hecho : rd32 (buf ++ extra) 0 = rd32 buf 0 := h.rd32_header_append extra (by decide)
  have hraw : (if mode.ts then some (rd32 (buf ++ extra) (timestampOffset mode)) else none) =
      if mode.ts then some (rd32 buf (timestampOffset mode)) else none := by
    split
    next hts => rw [rd32_append_left (h.timestamp_le hts)]
    next => rfl
  rw [decodeBody_eq_ite (by omega) h.timestamp_le,
    decodeBody_eq_ite (by omega) (fun hts => (h.timestamp_le hts).trans hlen'), hid, hecho, h.frameOf_append extra hdl, hraw]

/-- DECODE reads nothing past the layout of its mode (R110). -/
theorem HoldsLayout.decodeFrame_append : decodeFrame mode (buf ++ extra) = decodeFrame mode buf := by
  have hheader : headerLength ≤ buf.length := (Nat.le_add_right _ _).trans h.offset_le
  have hheader' : headerLength ≤ (buf ++ extra).length := by
    rw [List.length_append]
    omega
  have hcode : dlcCode (buf ++ extra) = dlcCode buf :=
    congrArg BitVec.toNat (h.byteAt_append extra (Nat.lt_add_right _ (by decide : 8 < headerLength)))
  have hflags : flagsOf (buf ++ extra) = flagsOf buf :=
    h.byteAt_append extra (Nat.lt_add_right _ (by decide : 10 < headerLength))
  simp only [decodeFrame, hcode, hflags, Nat.not_lt.2 hheader, Nat.not_lt.2 hheader', if_false]
  split
  · rfl
  split
  · rfl
  next hmode =>
  split
  · rfl
  next dl hdl =>
    exact h.decodeBody_append extra (le_payloadFieldSize (len2dlc_of_dlc2len hdl) (by simpa using hmode))

end Layout

/-! ### DECODE of what ENCODE writes -/

section RoundTrip

variable {mode : ChannelMode} {f : CanFrame} (e : Word) {code : Nat} {extra : List Byte}

theorem code_le_of_len2dlc {fd : Bool} {n : BitVec 7} {code : Nat} (h : len2dlc fd n = some code) : code ≤ 15 := by
  rcases dlc2len_cases (dlc2len_of_len2dlc h) with ⟨hle, _⟩ | ⟨_, _, hle, _⟩
  · omega
  · exact hle

theorem idWord_frameBytes_append : idWord (frameBytes mode e f code ++ extra) = packCanId f := rd32_wr32 (packCanId f)

theorem dlcCode_frameBytes_append (hcode : code ≤ 15) : dlcCode (frameBytes mode e f code ++ extra) = code :=
  Nat.mod_eq_of_lt (by omega)

/-- Of a valid frame's bytes, header and payload hold the frame (R72, R137). -/
theorem frameOf_frameBytes_append (hid : Safety.IdFits f) (hstamp : f.timestamp = none) :
    frameOf (frameBytes mode e f code ++ extra) (dataLength f) = f := by
  obtain ⟨hext, hremote, herror⟩ := canIdFlags_packCanId f
  obtain ⟨hovf, hfd, hbrs, hesi⟩ := flags_packFlags f
  have hnumber : canIdNumber (packCanId f) = f.id :=
    BitVec.eq_of_toNat_eq ((canIdNumber_packCanId f).trans (Nat.mod_eq_of_lt hid))
  have hpayload : (f.payload ++ List.replicate (payloadFieldSize mode - f.payload.length) 0 ++ extra).take
      f.payload.length = f.payload := by simp
  have hflags : flagsOf (frameBytes mode e f code ++ extra) = packFlags f := rfl
  calc frameOf (frameBytes mode e f code ++ extra) (dataLength f)
      = { f with timestamp := none } := by
        simp only [frameOf, idWord_frameBytes_append, hflags, hext, hremote, herror, hovf, hfd, hbrs, hesi, hnumber]
        congr
    _ = f := by rw [← hstamp]

/-- The round trip of R137 on the codec: the bytes of a valid frame, with the four bytes of the timestamp after them where the mode
has one, decode to what was encoded. -/
theorem decodeFrame_frameBytes_append (hvalid : Safety.ValidFor mode f) (hcode : len2dlc f.isFD (dataLength f) = some code)
    (hextra : mode.ts = true → 4 ≤ extra.length) :
    decodeFrame mode (frameBytes mode e f code ++ extra) =
      .ok { echoId := e, frame := f, rawTs := if mode.ts then some (rd32 extra 0) else none } := by
  obtain ⟨hid, -, hmode, hstamp⟩ := hvalid
  have hpayload : f.payload.length ≤ payloadFieldSize mode := le_payloadFieldSize hcode hmode
  have hlen := frameBytes_length e code hpayload
  have hheader : headerLength + payloadFieldSize mode = timestampOffset mode := rfl
  have hfd : flagFd (flagsOf (frameBytes mode e f code ++ extra)) = f.isFD := (flags_packFlags f).2.1
  have hle := code_le_of_len2dlc hcode
  have hecho : rd32 (frameBytes mode e f code ++ extra) 0 = e := rd32_wr32 e
  have hwide : canIdTooWide (idWord (frameBytes mode e f code ++ extra)) = false := by
    rw [idWord_frameBytes_append]
    exact canIdTooWide_packCanId f
  rw [decodeFrame_eq_decodeBody (dl := dataLength f), decodeBody_eq_ite, hwide, hecho, frameOf_frameBytes_append e hid hstamp,
    rd32_append_right hlen]
  · rfl
  · simp only [dataLength_toNat, List.length_append]
    omega
  · intro hts
    have := hextra hts
    rw [List.length_append]
    omega
  · rw [List.length_append]
    omega
  · exact (dlcCode_frameBytes_append e hle).trans_le hle
  · rwa [hfd]
  · rw [hfd, dlcCode_frameBytes_append e hle]
    exact dlc2len_of_len2dlc hcode

end RoundTrip

/-! ### ENCODE, check by check -/

theorem exec_encode_of_ok {mode : ChannelMode} {s : State} {bytes : List Byte}
    (h : encodeFrame mode s.operands.echoId s.operands.frame = .ok bytes) :
    exec (.encode mode) s = .next (s.finish .ok (.encoded bytes)) := by
  simp only [exec, execEncode, h]

section Checks

variable {mode : ChannelMode} {e : Word} {f : CanFrame}

theorem encodeFrame_eq_fdNotEnabled (hfd : f.isFD = true) (hmode : mode.fd = false) :
    encodeFrame mode e f = .error .fdNotEnabled :=
  if_pos (by rw [hfd, hmode]; rfl)

theorem encodeFrame_eq_badLength (hmode : f.isFD = true → mode.fd = true) (hcode : len2dlc f.isFD (dataLength f) = none) :
    encodeFrame mode e f = .error .badLength := by
  have hfd : ¬ (f.isFD && !mode.fd) = true := by simpa using hmode
  rw [encodeFrame, if_neg hfd, hcode]

theorem encodeFrame_eq_ok {code : Nat} (hmode : f.isFD = true → mode.fd = true)
    (hcode : len2dlc f.isFD (dataLength f) = some code) :
    encodeFrame mode e f = .ok (frameBytes mode e f code) := by
  have hfd : ¬ (f.isFD && !mode.fd) = true := by simpa using hmode
  rw [encodeFrame, if_neg hfd, hcode]

end Checks

/-! ### ENCODE of what DECODE reads -/

/-- The first bytes of a buffer, one by one. -/
theorem take_header {buf : List Byte} (h : headerLength ≤ buf.length) :
    buf.take headerLength =
      wr32 (rd32 buf 0) ++ wr32 (idWord buf) ++ [byteAt buf 8, byteAt buf 9, byteAt buf 10, byteAt buf 11] := by
  have hbytes : (buf.drop 0).take headerLength = _ := take_drop_eq_map_range (by simpa using h)
  rw [idWord, wr32_rd32, wr32_rd32]
  simpa [headerLength, List.range_succ] using hbytes

/-- Bytes that are all zero, as a list. -/
theorem drop_eq_replicate_zero {buf : List Byte} {off : Nat} (h : ∀ i, off ≤ i → byteAt buf i = 0) :
    buf.drop off = List.replicate (buf.length - off) 0 := by
  apply List.ext_getElem (by simp)
  intro i hi _
  rw [List.length_drop] at hi
  have hzero : buf.getD (off + i) 0 = 0 := h (off + i) (by omega)
  rw [List.getD_eq_getElem _ _ (by omega)] at hzero
  simpa using hzero

/-- The other half of the round trip on the bytes: what is read from a buffer with no reserved, unused or surplus bit set makes the
same buffer again (R138). -/
theorem frameBytes_frameOf {mode : ChannelMode} {buf : List Byte} {dl : BitVec 7}
    (hlen : buf.length = timestampOffset mode) (hpayload : dl.toNat ≤ buf.length - headerLength)
    (hwide : canIdTooWide (idWord buf) = false) (hflags : (flagsOf buf).toNat < 16) (hreserved : byteAt buf 11 = 0)
    (hunused : ∀ i, dl.toNat ≤ i → byteAt buf (headerLength + i) = 0) :
    frameBytes mode (rd32 buf 0) (frameOf buf dl) (dlcCode buf) = buf := by
  have hsize : timestampOffset mode = headerLength + payloadFieldSize mode := rfl
  have hcode : BitVec.ofNat 8 (dlcCode buf) = byteAt buf 8 := by simp [dlcCode]
  have hzeros : (buf.drop headerLength).drop dl.toNat = List.replicate (payloadFieldSize mode - dl.toNat) 0 := by
    rw [List.drop_drop, drop_eq_replicate_zero]
    · congr 1
      omega
    · intro i hi
      obtain ⟨k, rfl⟩ := Nat.exists_eq_add_of_le hi
      rw [Nat.add_assoc]
      exact hunused _ (Nat.le_add_right _ _)
  calc frameBytes mode (rd32 buf 0) (frameOf buf dl) (dlcCode buf)
      = wr32 (rd32 buf 0) ++ wr32 (idWord buf) ++ [byteAt buf 8, byteAt buf 9, byteAt buf 10, byteAt buf 11]
          ++ (buf.drop headerLength).take dl.toNat ++ List.replicate (payloadFieldSize mode - dl.toNat) 0 := by
        rw [frameBytes, packCanId_frameOf dl hwide, packFlags_frameOf dl hflags, dataLength_frameOf hpayload, hcode,
          hreserved]
        rfl
    _ = buf.take headerLength ++ ((buf.drop headerLength).take dl.toNat ++ (buf.drop headerLength).drop dl.toNat) := by
        rw [take_header (by omega), hzeros, List.append_assoc _ (List.take _ _)]
    _ = buf := by rw [List.take_append_drop, List.take_append_drop]

/-- R138 on the codec. -/
theorem encodeFrame_of_decodeFrame {mode : ChannelMode} {buf : List Byte} {d : Decoded} (h : decodeFrame mode buf = .ok d)
    (hlen : buf.length = timestampOffset mode) (hflags : (flagsOf buf).toNat < 16) (hreserved : byteAt buf 11 = 0)
    (hunused : ∀ i, d.frame.payload.length ≤ i → byteAt buf (headerLength + i) = 0) :
    encodeFrame mode d.echoId d.frame = .ok buf := by
  obtain ⟨_, _, hmode, dl, hdl, hbody⟩ := decodeFrame_ok h
  obtain ⟨hpayload, _, hwide, rfl⟩ := decodeBody_ok hbody
  have hlength := dataLength_frameOf hpayload
  have hcode : len2dlc (flagFd (flagsOf buf)) (dataLength (frameOf buf dl)) = some (dlcCode buf) := by
    rw [hlength]
    exact len2dlc_of_dlc2len hdl
  refine (encodeFrame_eq_ok hmode hcode).trans (congrArg _ ?_)
  refine frameBytes_frameOf hlen hpayload hwide hflags hreserved fun i hi => hunused i ?_
  rwa [← dataLength_toNat, hlength]

/-! ### INGEST without a timestamp -/

/-- Without a raw timestamp INGEST signals the overflow flag and routes the frame as it is (R220). -/
theorem State.ingestDecoded_of_no_timestamp (s : State) {d : Decoded} (hraw : d.rawTs = none)
    (hstamp : d.frame.timestamp = none) :
    s.ingestDecoded d = (s.signalOverflow d.frame).route d.echoId d.frame := by
  have hobserve : observeDecoded s.params s.regs d = (s.regs, none) := by rw [observeDecoded, hraw]
  have hframe : stampedFrame s.params s.regs d = d.frame := by rw [stampedFrame, hobserve, ← hstamp]
  rw [State.ingestDecoded, hframe, hobserve]

theorem exec_ingest_of_no_timestamp {mode : ChannelMode} {s : State} {d : Decoded} (hfits : s.operands.bufferFits)
    (h : decodeFrame mode s.operands.buf = .ok d) (hraw : d.rawTs = none) (hstamp : d.frame.timestamp = none) :
    exec (.ingest mode) s = .next ((s.signalOverflow d.frame).route d.echoId d.frame) := by
  rw [exec_ingest_of_fits hfits, h]
  exact congrArg _ (s.ingestDecoded_of_no_timestamp hraw hstamp)

section Route

variable {echoId : Word} (s : State) {f : CanFrame}

theorem State.route_of_echoId (h : echoId ≠ rxSentinel) :
    s.route echoId f =
      (s.echo { echoId := echoId, frame := f }).finish .ok (.ingested (.echo { echoId := echoId, frame := f })) :=
  if_neg h

theorem State.route_of_data (h : echoId = rxSentinel) (hdata : f.isError = false) :
    s.route echoId f = (s.deliver f).finish .ok (.ingested (.data f)) := by
  rw [State.route, if_pos h, hdata, if_neg Bool.false_ne_true]

theorem State.route_of_error (h : echoId = rxSentinel) (herror : f.isError = true) :
    s.route echoId f = (s.consume f).finish (consumeResult f) (.ingested .error) := by
  rw [State.route, if_pos h, if_pos herror]

end Route

/-- What the link state machine leaves in the registers follows the registers and the parameters alone (R187). -/
theorem State.consume_regs_congr {s t : State} (hregs : t.regs = s.regs) (hparams : t.params = s.params) (f : CanFrame) :
    (t.consume f).regs = (s.consume f).regs := by
  unfold State.consume
  split
  · simp only [hregs, hparams]
  · exact hregs

end Sys2Proof.Machine

namespace Sys2Proof.Proofs

open Sys2Proof.Machine Sys2Proof.Safety

/-- ENCODE of a valid frame gives its bytes, which are the layout of the mode but for the timestamp (R125, R137). -/
theorem exec_encode_of_valid {mode : ChannelMode} {s : State} (hvalid : ValidFor mode s.operands.frame) :
    ∃ code, len2dlc s.operands.frame.isFD (dataLength s.operands.frame) = some code ∧
      (frameBytes mode s.operands.echoId s.operands.frame code).length ≤ 76 ∧
      exec (.encode mode) s =
        .next (s.finish .ok (.encoded (frameBytes mode s.operands.echoId s.operands.frame code))) := by
  obtain ⟨-, hlength, hmode, -⟩ := hvalid
  obtain ⟨code, hcode⟩ := Option.isSome_iff_exists.1 hlength
  refine ⟨code, hcode, ?_, exec_encode_of_ok (encodeFrame_eq_ok hmode hcode)⟩
  exact (frameBytes_length _ _ (le_payloadFieldSize hcode hmode)).trans_le (timestampOffset_le mode)

/-- Settles O19: the bytes of a valid frame hold each field at the offset DECODE reads it from, and pass every check of R110. -/
theorem decodeInvertsEncode : Obligations.DecodeInvertsEncode := by
  intro mode s hvalid
  obtain ⟨code, hcode, hlen, hexec⟩ := exec_encode_of_valid hvalid
  refine ⟨_, hexec, fun s' t hbuf => ?_⟩
  have hdecode : decodeFrame mode s'.operands.buf =
      .ok { echoId := s.operands.echoId, frame := s.operands.frame, rawTs := if mode.ts then some t else none } := by
    rw [hbuf]
    cases hts : mode.ts with
    | false => simpa [hts] using decodeFrame_frameBytes_append _ (extra := []) hvalid hcode (by simp [hts])
    | true =>
      simpa [hts, rd32_wr32] using
        decodeFrame_frameBytes_append _ (extra := wr32 t) hvalid hcode fun _ => Nat.le_refl 4
  have hfits : s'.operands.bufferFits := by
    apply bufferFits_of_length_le
    rw [hbuf]
    split
    · rw [List.length_append]
      exact Nat.add_le_add_right hlen 4
    · exact hlen.trans (by decide)
  exact ⟨_, exec_decode_of_ok hfits hdecode, rfl⟩

/-- Settles O20: the fields DECODE reads make the same header and payload again, and the rest of the buffer is zero. -/
theorem encodeInvertsDecode : Obligations.EncodeInvertsDecode := by
  intro mode s t d _ hlen hexec hresult hreserved hflags hunused s' hecho hframe
  apply exec_encode_of_ok
  rw [hecho, hframe]
  exact encodeFrame_of_decodeFrame (decodeFrame_of_exec_decode hexec hresult) hlen hflags hreserved hunused

/-- Settles O14: DECODE reads nothing past the layout. -/
theorem bytesPastTheLayoutAreIgnored : Obligations.BytesPastTheLayoutAreIgnored := by
  intro mode s extra hfits hlayout
  have hfits' : s.operands.bufferFits := (List.sublist_append_left _ _).length_le.trans hfits
  exact exec_decode_latch (ops := { s.operands with buf := s.operands.buf ++ extra }) hfits' hfits
    (HoldsLayout.decodeFrame_append hlayout extra)

/-- Settles O17: the id word of ENCODE in arithmetic, and the last check of DECODE. -/
theorem idsAreMaskedOnEncodeAndRejectedOnDecode : Obligations.IdsAreMaskedOnEncodeAndRejectedOnDecode := by
  constructor
  · intro mode s t bytes hexec hresult f byte cid
    obtain ⟨code, _, rfl⟩ := frameBytes_of_exec_encode hexec hresult
    have hcid : cid = (packCanId f).toNat :=
      calc cid = (rd32 (wr32 (packCanId f)) 0).toNat := (rd32_toNat _ _).symm
        _ = (packCanId f).toNat := by rw [rd32_wr32]
    have hflags := packCanId_toNat f
    have hlow : cid % 2 ^ 29 = f.id.toNat % (if f.isExtended then 2 ^ 29 else 2 ^ 11) := by
      rw [hcid, ← canIdNumber_toNat, canIdNumber_packCanId]
    have hlt := mod_idRange_lt f.id.toNat f.isExtended
    exact ⟨by omega, fun hext => hlow.trans (by rw [hext]; rfl), fun hext => hlow.trans (by rw [hext]; rfl)⟩
  · intro mode s hfits byte cid hstd hwide
    have hcid : (idWord s.operands.buf).toNat = cid := rd32_toNat _ _
    have hreject : canIdTooWide (idWord s.operands.buf) = true := by
      rw [canIdTooWide_iff, hcid]
      exact ⟨hstd, hwide⟩
    obtain ⟨k, hk⟩ := decodeFrame_error_of_canIdTooWide (mode := mode) hreject
    exact ⟨k, exec_decode_of_error hfits hk⟩

/-- Settles O12: the checks in R110's order, each read in arithmetic, and the frame's fields at their offsets. -/
theorem decodeReportsFirstFailureOrFrame : Obligations.DecodeReportsFirstFailureOrFrame := by
  intro mode s hfits buf n byte word code cid P dl fails
  have hfails {k : MalformedCause} (h : decodeFrame mode buf = .error k) : fails k := exec_decode_of_error hfits h
  have hcid : (idWord buf).toNat = cid := rd32_toNat buf 4
  have hfd : flagFd (flagsOf buf) = true ↔ byte 10 / 2 % 2 = 1 := eq_true_iff_of_toNat_eq (flagFd_toNat _)
  split
  next hshort => exact hfails (decodeFrame_eq_shortHeader hshort)
  next hheader =>
  replace hheader : headerLength ≤ buf.length := Nat.not_lt.1 hheader
  split
  next hcode => exact hfails (decodeFrame_eq_badDlc_of_code hheader hcode)
  next hcode =>
  replace hcode : dlcCode buf ≤ 15 := Nat.not_lt.1 hcode
  split
  next hmode => exact hfails (decodeFrame_eq_fdNotEnabled hheader hcode (hfd.2 hmode.1) hmode.2)
  next hmode =>
  have hmode' : flagFd (flagsOf buf) = true → mode.fd = true := fun h => by simpa [hfd.1 h] using hmode
  split
  next hclassic =>
    have hfd' : flagFd (flagsOf buf) = false := by
      rw [← Bool.not_eq_true, hfd]
      omega
    exact hfails (decodeFrame_eq_badDlc_of_classic hheader hcode hfd' hclassic.2)
  next hclassic =>
  have hlong (h : 8 < dlcCode buf) : flagFd (flagsOf buf) = true :=
    hfd.2 ((Nat.mod_two_eq_zero_or_one _).resolve_left fun hclear => hclassic ⟨hclear, h⟩)
  obtain ⟨m, hdl, hm⟩ := dlc2len_eq_some hcode hlong
  replace hm : m.toNat = dl := hm
  have hbody := decodeFrame_eq_decodeBody hheader hcode hmode' hdl
  split
  next hshort => exact hfails (hbody.trans (decodeBody_eq_shortPayload (hm ▸ hshort)))
  next hpayload =>
  replace hpayload : m.toNat ≤ buf.length - headerLength := hm ▸ Nat.not_lt.1 hpayload
  split
  next hts => exact hfails (hbody.trans (decodeBody_eq_shortTimestamp hpayload hts.1 hts.2))
  next hts =>
  have hid := hbody.trans (decodeBody_eq_ite hpayload fun h => Nat.not_lt.1 (not_and.1 hts h))
  split
  next hwide => exact hfails (hid.trans (if_pos ((canIdTooWide_iff _).2 (by rwa [hcid]))))
  next hwide =>
  have hok := hid.trans (if_neg (mt (canIdTooWide_iff _).1 (by rwa [hcid])))
  refine ⟨frameOf buf m, ?_, ?_⟩
  · rw [exec_decode_of_ok hfits hok, rd32_eq_ofNat, rd32_eq_ofNat]
    rfl
  · have hpayloadBytes : (frameOf buf m).payload = (List.range dl).map fun i => buf.getD (12 + i) 0 :=
      hm ▸ take_drop_eq_map_range hpayload
    exact ⟨hcid ▸ canIdNumber_toNat _, hcid ▸ eq_true_iff_of_toNat_eq (canIdExtended_toNat _),
      hcid ▸ eq_true_iff_of_toNat_eq (canIdRemote_toNat _), hcid ▸ eq_true_iff_of_toNat_eq (canIdError_toNat _),
      eq_true_iff_of_toNat_eq (flagOverflow_toNat _), hfd, eq_true_iff_of_toNat_eq (flagBrs_toNat _),
      eq_true_iff_of_toNat_eq (flagEsi_toNat _), rfl, rfl, hpayloadBytes⟩

/-- Settles O16: the checks in R125's order, and each byte of the header and the payload field read at its offset. -/
theorem encodeReportsFirstFailureOrBytes : Obligations.EncodeReportsFirstFailureOrBytes := by
  intro mode s f n lengths P cid fails
  have hfails {k : InvalidCause} (h : encodeFrame mode s.operands.echoId f = .error k) : fails k :=
    exec_encode_of_error h
  have hcodes := len2dlc_eq_ite f.isFD (dataLength f)
  rw [dataLength_toNat] at hcodes
  split
  next hmode => exact hfails (encodeFrame_eq_fdNotEnabled hmode.1 hmode.2)
  next hmode =>
  have hmode' : f.isFD = true → mode.fd = true := by simpa using hmode
  split
  next hlength => exact hfails (encodeFrame_eq_badLength hmode' (hcodes.trans (if_neg hlength)))
  next hlength =>
  have hcode := hcodes.trans (if_pos (not_not.1 hlength))
  refine ⟨_, exec_encode_of_ok (encodeFrame_eq_ok hmode' hcode),
    frameBytes_length _ _ (le_payloadFieldSize hcode hmode'), fun k hk => ?_, fun k hk => ?_, ?_, rfl,
    packFlags_toNat f, rfl, fun i _ => byteAt_frameBytes_payload mode _ f _ i⟩
  · exact (congrArg BitVec.toNat (byteAt_frameBytes_echoId mode _ f _ k hk)).trans (byteAt_wr32_toNat _ hk)
  · have hcid : (packCanId f).toNat = cid := packCanId_toNat f
    rw [← hcid]
    exact (congrArg BitVec.toNat (byteAt_frameBytes_canId mode _ f _ k hk)).trans (byteAt_wr32_toNat _ hk)
  · exact Nat.mod_eq_of_lt ((code_le_of_len2dlc hcode).trans_lt (by decide))

/-- Settles O37: the bytes decode to the frame without a timestamp, so INGEST only signals its overflow flag and routes it. -/
theorem ingestRoutesAnEncodedFrame : Obligations.IngestRoutesAnEncodedFrame := by
  intro mode s hts hvalid f e
  obtain ⟨code, hcode, hlen, hexec⟩ := exec_encode_of_valid hvalid
  have hdecode : decodeFrame mode (frameBytes mode e f code) = .ok { echoId := e, frame := f, rawTs := none } := by
    simpa [hts] using decodeFrame_frameBytes_append e (extra := []) hvalid hcode (by simp [hts])
  obtain ⟨-, -, -, hstamp⟩ := hvalid
  let issued : State := s.latch { s.operands with buf := frameBytes mode e f code }
  let signalled : State := issued.signalOverflow f
  have hfits : issued.operands.bufferFits := bufferFits_of_length_le (hlen.trans (by decide))
  have hingest : exec (.ingest mode) issued = .next (signalled.route e f) :=
    exec_ingest_of_no_timestamp hfits hdecode rfl hstamp
  have hregs : signalled.regs = s.regs := issued.signalOverflow_regs f
  have hparams : signalled.params = s.params := (KeepsOwnFields.signalOverflow issued f).params
  obtain ⟨hdata, hecho, -⟩ := Appends.signalOverflow issued f
  rw [List.append_nil] at hdata hecho
  refine ⟨_, hexec, _, hingest, fun he => ?_, fun he hf => ?_, fun he hf => ?_⟩
  · rw [signalled.route_of_echoId he]
    exact ⟨hregs, hdata, congrArg (· ++ _) hecho⟩
  · rw [signalled.route_of_data he hf]
    exact ⟨hregs, congrArg (· ++ _) hdata, hecho⟩
  · rw [signalled.route_of_error he hf]
    obtain ⟨hdata', hecho', -⟩ := Appends.consume signalled f
    rw [List.append_nil] at hdata' hecho'
    exact ⟨hdata'.trans hdata, hecho'.trans hecho, _, rfl, State.consume_regs_congr hregs hparams f⟩

end Sys2Proof.Proofs
end

section
/-! PROOF. The statements of spec/41_timestamp.md: the wrap rule and the conversion in integers, what TS_OBSERVE and TS_RESYNC answer,
and the monotonicity law over a run of samples. First the epochs and the conversion as numbers, then how the time of a sample relates
to the newest sample's, then the two commands and a run of close samples, then the statements. -/

namespace Sys2Proof.Machine

/-! ### The wrap rule and the conversion as numbers -/

theorem ofInt_sub_eq_sub {w : Nat} (x y : Int) : BitVec.ofInt w (x - y) = BitVec.ofInt w x - BitVec.ofInt w y := by
  rw [Int.sub_eq_add_neg, BitVec.ofInt_add, BitVec.ofInt_neg, BitVec.sub_eq_add_neg]

theorem setWidth_eq_ofInt (x : Word) : x.setWidth 64 = BitVec.ofInt 64 x.toNat := by
  rw [BitVec.ofInt_natCast, BitVec.ofNat_toNat]

theorem elapsed_eq_ofInt (r : Registers) (epoch raw : Word) :
    elapsed r epoch raw = BitVec.ofInt 64 (epoch.toNat * 2 ^ 32 + raw.toNat - r.tsZeroRaw.toNat) := by
  rw [elapsed, ofInt_sub_eq_sub, BitVec.ofInt_add, BitVec.ofInt_mul, BitVec.shiftLeft_eq_mul_twoPow,
    setWidth_eq_ofInt, setWidth_eq_ofInt, setWidth_eq_ofInt]
  rfl

/-- The conversion formula of R150 in integers modulo 2^64. -/
theorem conv_eq_ofInt (r : Registers) (epoch raw : Word) :
    conv r epoch raw =
      BitVec.ofInt 64 (r.tsBaseHost.toInt + epoch.toNat * 2 ^ 32 + raw.toNat - r.tsZeroRaw.toNat) := by
  calc conv r epoch raw
      = BitVec.ofInt 64 r.tsBaseHost.toInt
          + BitVec.ofInt 64 (epoch.toNat * 2 ^ 32 + raw.toNat - r.tsZeroRaw.toNat) := by
        rw [conv, elapsed_eq_ofInt, BitVec.ofInt_toInt]
    _ = _ := by rw [← BitVec.ofInt_add, ← add_sub_assoc, ← add_assoc]

theorem forwardDistance_toNat (r : Registers) (raw : Word) :
    (forwardDistance r raw).toNat = (raw.toNat + 2 ^ 32 - r.tsLastRaw.toNat) % 2 ^ 32 := by
  rw [forwardDistance]
  bv_omega

theorem advanceEpoch_toNat (r : Registers) (raw : Word) :
    (advanceEpoch r raw).toNat =
      if raw.toNat < r.tsLastRaw.toNat then (r.tsWrap.toNat + 1) % 2 ^ 32 else r.tsWrap.toNat := by
  rw [advanceEpoch, apply_ite BitVec.toNat]
  rfl

theorem advanceEpoch_eq_ofNat (r : Registers) (raw : Word) :
    advanceEpoch r raw =
      BitVec.ofNat 32 (if raw.toNat < r.tsLastRaw.toNat then (r.tsWrap.toNat + 1) % 2 ^ 32 else r.tsWrap.toNat) := by
  rw [← advanceEpoch_toNat, BitVec.ofNat_toNat, BitVec.setWidth_eq]

theorem staleEpoch_toNat (r : Registers) (raw : Word) :
    (staleEpoch r raw).toNat =
      if raw.toNat ≤ r.tsLastRaw.toNat then r.tsWrap.toNat else (r.tsWrap.toNat + (2 ^ 32 - 1)) % 2 ^ 32 := by
  rw [staleEpoch, apply_ite BitVec.toNat, BitVec.toNat_sub, Nat.add_comm r.tsWrap.toNat]
  rfl

/-- A sample advances below half the range, and at half the range when ties are not stale (R153). -/
theorem classify_eq_advance_iff (p : Params) (r : Registers) (raw : Word) :
    classify p r raw = .advance ↔
      (forwardDistance r raw).toNat < 2 ^ 31 ∨ ((forwardDistance r raw).toNat = 2 ^ 31 ∧ p.tieStale = false) := by
  unfold classify
  split
  next hbelow => exact iff_of_true rfl (.inl hbelow)
  next hge =>
    split
    next habove => exact iff_of_false nofun (by omega)
    next hle =>
      have htie : (forwardDistance r raw).toNat = 2 ^ 31 := by omega
      cases p.tieStale <;> simp [htie]

theorem classify_eq_stale_iff (p : Params) (r : Registers) (raw : Word) :
    classify p r raw = .stale ↔
      2 ^ 31 < (forwardDistance r raw).toNat ∨ ((forwardDistance r raw).toNat = 2 ^ 31 ∧ p.tieStale = true) := by
  have hnot : classify p r raw = .stale ↔ ¬ classify p r raw = .advance := by cases classify p r raw <;> decide
  rw [hnot, classify_eq_advance_iff]
  cases p.tieStale with
  | false =>
    simp only [and_true, reduceCtorEq, and_false, or_false]
    omega
  | true =>
    simp only [and_true, reduceCtorEq, and_false, or_false]
    omega

/-- The drift is measured as a signed 64-bit difference (R158). -/
theorem toInt_conv_sub (r : Registers) (epoch raw : Word) (hostNow : HostTime) :
    (conv r epoch raw - hostNow).toInt =
      Int.bmod (r.tsBaseHost.toInt + (epoch.toNat * 2 ^ 32 + raw.toNat - r.tsZeroRaw.toNat) - hostNow.toInt) (2 ^ 64) := by
  rw [conv_eq_ofInt, BitVec.toInt_sub, BitVec.toInt_ofInt, Int.bmod_sub_bmod, add_assoc, add_sub_assoc r.tsBaseHost.toInt]

/-- Without a limit no drift is too large (R158). -/
theorem driftTooLarge_of_none {p : Params} (hlimit : p.resyncMaxDriftUs = none) (c hostNow : HostTime) :
    driftTooLarge p c hostNow = false := by
  rw [driftTooLarge, hlimit]

/-- With a limit a drift is too large strictly above it (R158). -/
theorem driftTooLarge_of_some {p : Params} {m : BitVec 64} {c hostNow : HostTime} {drift : Int}
    (hlimit : p.resyncMaxDriftUs = some m) (hdrift : (c - hostNow).toInt = drift) :
    driftTooLarge p c hostNow = decide (m.toNat < drift.natAbs) := by
  rw [driftTooLarge, hlimit, hdrift]

/-! ### The time of a sample and the newest sample's -/

/-- The time TS_LAST_RAW converts to in the epoch TS_WRAP. -/
def newestTime (r : Registers) : HostTime := conv r r.tsWrap r.tsLastRaw

theorem newestTime_eq_ofInt (r : Registers) :
    newestTime r =
      BitVec.ofInt 64 (r.tsBaseHost.toInt + r.tsWrap.toNat * 2 ^ 32 + r.tsLastRaw.toNat - r.tsZeroRaw.toNat) :=
  conv_eq_ofInt ..

/-- The wrap that the epoch counts is the one the forward distance leaves out (R160). -/
theorem conv_advanceEpoch (r : Registers) (raw : Word) :
    conv r (advanceEpoch r raw) raw = newestTime r + (raw - r.tsLastRaw).setWidth 64 := by
  rw [newestTime_eq_ofInt, conv_eq_ofInt, advanceEpoch_toNat]
  split
  next hfell => bv_omega
  next hrose => bv_omega

/-- The epoch of a stale sample puts it behind the newest one by the backward distance (R154, R161). -/
theorem conv_staleEpoch (r : Registers) (raw : Word) :
    conv r (staleEpoch r raw) raw = newestTime r - (r.tsLastRaw - raw).setWidth 64 := by
  rw [newestTime_eq_ofInt, conv_eq_ofInt, staleEpoch_toNat]
  split
  next hbelow => bv_omega
  next habove => bv_omega

/-! ### TS_OBSERVE and TS_RESYNC on the registers -/

theorem observe_of_advance {p : Params} {r : Registers} {raw : Word} (hvalid : r.tsValid = true)
    (hclass : classify p r raw = .advance) :
    observe p r raw = ({ r with tsWrap := advanceEpoch r raw, tsLastRaw := raw },
      some (newestTime r + (raw - r.tsLastRaw).setWidth 64)) := by
  rw [observe, if_pos hvalid, hclass, ← conv_advanceEpoch]

theorem observe_of_stale {p : Params} {r : Registers} {raw : Word} (hvalid : r.tsValid = true)
    (hclass : classify p r raw = .stale) :
    observe p r raw = (r, some (newestTime r - (r.tsLastRaw - raw).setWidth 64)) := by
  rw [observe, if_pos hvalid, hclass, ← conv_staleEpoch]

/-- The newest sample observed again has distance 0 and writes the same values back (R155). -/
theorem observe_lastRaw (p : Params) {r : Registers} (hvalid : r.tsValid = true) :
    observe p r r.tsLastRaw = (r, some (newestTime r)) := by
  have hadvance : classify p r r.tsLastRaw = .advance :=
    (classify_eq_advance_iff ..).2 (.inl (by rw [forwardDistance, BitVec.sub_self]; decide))
  have hepoch : advanceEpoch r r.tsLastRaw = r.tsWrap := if_neg (Nat.lt_irrefl _)
  rw [observe_of_advance hvalid hadvance, hepoch, BitVec.sub_self, BitVec.setWidth_zero, BitVec.add_zero]

theorem newestTime_anchor (r : Registers) (raw : Word) (hostNow : HostTime) :
    newestTime (anchor r raw hostNow) = hostNow := by
  rw [newestTime_eq_ofInt]
  simp [anchor]

theorem newestTime_recalibrate (r : Registers) (raw : Word) (hostNow : HostTime) :
    newestTime (recalibrate r raw hostNow) = hostNow := BitVec.sub_add_cancel ..

/-- Every TS_RESYNC leaves an anchored engine whose newest sample is the given one at its host time (R157, R158). -/
theorem resync_newest (p : Params) (r : Registers) (raw : Word) (hostNow : HostTime) :
    (resync p r raw hostNow).1.tsValid = true ∧ (resync p r raw hostNow).1.tsLastRaw = raw ∧
    newestTime (resync p r raw hostNow).1 = hostNow := by
  rcases resync_cases p r raw hostNow with ⟨_, h⟩ | ⟨_, _, h⟩ | ⟨hvalid, _, _, h⟩ <;> rw [h]
  · exact ⟨rfl, rfl, newestTime_anchor r raw hostNow⟩
  · exact ⟨rfl, rfl, newestTime_anchor r raw hostNow⟩
  · exact ⟨hvalid, rfl, newestTime_recalibrate r raw hostNow⟩

/-- An ordinary resync in integers: the base is the host time less the elapsed time modulo 2^64 (R158). -/
theorem recalibrate_eq (r : Registers) (raw : Word) (hostNow : HostTime) :
    recalibrate r raw hostNow =
      { r with
        tsWrap := advanceEpoch r raw
        tsLastRaw := raw
        tsBaseHost := BitVec.ofInt 64
          (hostNow.toInt - ((advanceEpoch r raw).toNat * 2 ^ 32 + raw.toNat - r.tsZeroRaw.toNat)) } := by
  rw [ofInt_sub_eq_sub, BitVec.ofInt_toInt, ← elapsed_eq_ofInt]
  rfl

/-! ### The commands -/

/-- TS_OBSERVE writes the registers and the time of `observe`, and nothing else (R155). -/
theorem exec_tsObserve_of_observe {s : State} {r : Registers} {time : Option HostTime}
    (h : observe s.params s.regs s.operands.raw = (r, time)) :
    exec .tsObserve s = .next { s with regs := r, result := some { result := .ok, outputs := .observed time } } := by
  change execTsObserve s = _
  rw [execTsObserve, h]
  rfl

/-- TS_RESYNC writes the registers and the status of `resync`, and nothing else (R158). -/
theorem exec_tsResync_of_resync {s : State} {r : Registers} {status : ResyncStatus}
    (h : resync s.params s.regs s.operands.raw s.operands.hostNow = (r, status)) :
    exec .tsResync s = .next { s with regs := r, result := some { result := .ok, outputs := .resynced status } } := by
  change execTsResync s = _
  rw [execTsResync, h]
  rfl

/-! ### A run of close samples -/

/-- The state after a pending TS_OBSERVE of an advancing sample, with the samples `rest` still pending (R155; log entry 1). -/
def State.afterSample (s : State) (raw : Word) (rest : List Word) : State :=
  { s with
    inputs := Safety.observeCommands rest
    operands := { idleOperands with raw := raw }
    regs := { s.regs with tsWrap := advanceEpoch s.regs raw, tsLastRaw := raw }
    result := some
      { result := .ok, outputs := .observed (some (newestTime s.regs + (raw - s.regs.tsLastRaw).setWidth 64)) } }

theorem newestTime_afterSample (s : State) (raw : Word) (rest : List Word) :
    newestTime (s.afterSample raw rest).regs = newestTime s.regs + (raw - s.regs.tsLastRaw).setWidth 64 :=
  conv_advanceEpoch s.regs raw

/-- One step of the monotonicity law: a close sample is an advance (R160). -/
theorem step_of_close_sample {s : State} {raw : Word} {rest : List Word} (hvalid : s.regs.tsValid = true)
    (hclose : (raw - s.regs.tsLastRaw).toNat < 2 ^ 31) (hinputs : s.inputs = Safety.observeCommands (raw :: rest)) :
    step s = .next (s.afterSample raw rest) := by
  let ops : Operands := { idleOperands with raw := raw }
  let waiting : State := { s with inputs := Safety.observeCommands rest }
  have hadvance : classify s.params s.regs raw = .advance := (classify_eq_advance_iff ..).2 (.inl hclose)
  calc step s
      = waiting.issue 0x00000004 ops := step_of_inputs_cons hinputs
    _ = exec .tsObserve (waiting.latch ops) := State.issue_of_decode_eq_ok _ _ Laws.RoundTrip.tsObserve
    _ = .next (s.afterSample raw rest) :=
      exec_tsObserve_of_observe (s := waiting.latch ops) (observe_of_advance hvalid hadvance)

/-- The times of a run of close samples are those of the law (R160). -/
theorem stepResults_of_close_samples {s : State} {raws : List Word} (hvalid : s.regs.tsValid = true)
    (hclose : Safety.SamplesClose s.regs.tsLastRaw raws) (hinputs : s.inputs = Safety.observeCommands raws) :
    Safety.stepResults raws.length s =
      (Safety.advancingTimes (newestTime s.regs) s.regs.tsLastRaw raws).map
        (fun h => some { result := .ok, outputs := .observed (some h) }) := by
  induction raws generalizing s with
  | nil => rfl
  | cons raw rest ih =>
    obtain ⟨hraw, hrest⟩ := hclose
    have hlater := ih (s := s.afterSample raw rest) hvalid hrest rfl
    rw [newestTime_afterSample] at hlater
    simp only [List.length_cons, Safety.stepResults, step_of_close_sample hvalid hraw hinputs, hlater]
    rfl

/-- After each step of such a run the newest sample is the one just observed, in the same mapping (R160, R33). -/
theorem runSteps_of_close_samples {k : Nat} {s : State} {raws : List Word} (hvalid : s.regs.tsValid = true)
    (hclose : Safety.SamplesClose s.regs.tsLastRaw raws) (hinputs : s.inputs = Safety.observeCommands raws)
    (hk : k ≤ raws.length) :
    ∃ t : State, Safety.runSteps k s = .next t ∧ t.regs.tsLastRaw = (s.regs.tsLastRaw :: raws).getD k 0 ∧
      t.regs.tsValid = true ∧ t.regs.tsZeroRaw = s.regs.tsZeroRaw ∧ t.regs.tsBaseHost = s.regs.tsBaseHost := by
  induction k generalizing s raws with
  | zero => exact ⟨s, rfl, rfl, hvalid, rfl, rfl⟩
  | succ k ih =>
    cases raws with
    | nil => exact absurd hk (Nat.not_succ_le_zero k)
    | cons raw rest =>
      obtain ⟨hraw, hrest⟩ := hclose
      obtain ⟨t, hrun, hfields⟩ := ih (s := s.afterSample raw rest) hvalid hrest rfl (Nat.le_of_succ_le_succ hk)
      refine ⟨t, ?_, hfields⟩
      simp only [Safety.runSteps, step_of_close_sample hvalid hraw hinputs, hrun]

/-! ### The times of the law as signed numbers -/

/-- Below 2^63 a distance moves a time forward as an integer (R160). -/
theorem toInt_add_distance {time : HostTime} {distance : Word} (h : time.toInt + distance.toNat < 2 ^ 63) :
    (time + distance.setWidth 64).toInt = time.toInt + distance.toNat := by
  have hlower : -2 ^ 63 ≤ time.toInt := time.le_toInt
  have hdistance : (distance.setWidth 64).toInt = distance.toNat := by
    rw [BitVec.toInt_setWidth]
    exact Int.bmod_eq_of_le (by omega) (by omega)
  rw [BitVec.toInt_add, hdistance]
  exact Int.bmod_eq_of_le (by omega) (by omega)

section Times

open Safety

variable {time : HostTime} {last : Word} {raws : List Word}

theorem advancingTimes_cons_bounds {raw : Word} (h : time.toInt + totalDistance last (raw :: raws) < 2 ^ 63) :
    (time + (raw - last).setWidth 64).toInt = time.toInt + (raw - last).toNat ∧
    (time + (raw - last).setWidth 64).toInt + totalDistance raw raws < 2 ^ 63 := by
  rw [totalDistance] at h
  have hmove := toInt_add_distance (time := time) (distance := raw - last) (by omega)
  exact ⟨hmove, by omega⟩

theorem le_of_mem_advancingTimes (h : time.toInt + totalDistance last raws < 2 ^ 63) {later : HostTime}
    (hmem : later ∈ advancingTimes time last raws) : time.toInt ≤ later.toInt := by
  induction raws generalizing time last with
  | nil => cases hmem
  | cons raw rest ih =>
    obtain ⟨hmove, hrest⟩ := advancingTimes_cons_bounds h
    rcases List.mem_cons.1 hmem with rfl | hmem
    · omega
    · have hle := ih hrest hmem
      omega

/-- While they stay below 2^63 the times never fall (R160). -/
theorem pairwise_advancingTimes (h : time.toInt + totalDistance last raws < 2 ^ 63) :
    (time :: advancingTimes time last raws).Pairwise (fun a b => a.toInt ≤ b.toInt) := by
  induction raws generalizing time last with
  | nil => exact List.pairwise_singleton _ _
  | cons raw rest ih =>
    obtain ⟨-, hrest⟩ := advancingTimes_cons_bounds h
    exact List.pairwise_cons.2 ⟨fun _ => le_of_mem_advancingTimes h, ih hrest⟩

/-- They rise where consecutive raw values differ (R160). -/
theorem advancingTimes_lt_of_ne (h : time.toInt + totalDistance last raws < 2 ^ 63) {k : Nat} (hk : k < raws.length)
    (hne : (last :: raws).getD k 0 ≠ (last :: raws).getD (k + 1) 0) :
    ((time :: advancingTimes time last raws).getD k 0).toInt <
      ((time :: advancingTimes time last raws).getD (k + 1) 0).toInt := by
  induction raws generalizing time last k with
  | nil => exact absurd hk (Nat.not_lt_zero k)
  | cons raw rest ih =>
    obtain ⟨hmove, hrest⟩ := advancingTimes_cons_bounds h
    cases k with
    | zero =>
      have hmoved : (raw - last).toNat ≠ 0 := fun hzero => hne (by simp at hzero ⊢; bv_omega)
      change time.toInt < (time + (raw - last).setWidth 64).toInt
      omega
    | succ k => exact ih hrest (Nat.lt_of_succ_lt_succ hk) hne

end Times

end Sys2Proof.Machine

namespace Sys2Proof.Proofs

open Sys2Proof.Machine Sys2Proof.Safety

/-- Settles O25: each pending sample is an advance, and the time of the newest sample is the law's running time. -/
theorem closeSamplesConvertMonotonically : Obligations.CloseSamplesConvertMonotonically := by
  intro s raws hvalid hclose hinputs start samples times
  have hstart : start = newestTime s.regs := (newestTime_eq_ofInt s.regs).symm
  refine ⟨?_, fun k hk => runSteps_of_close_samples hvalid hclose hinputs hk, fun hbelow => ?_⟩
  · rw [hstart]
    exact stepResults_of_close_samples hvalid hclose hinputs
  · exact ⟨pairwise_advancingTimes hbelow, fun k hk hne => advancingTimes_lt_of_ne hbelow hk hne⟩

/-- Settles O21: the three outcomes of `observe`, with its class, epochs and conversion read in integers. -/
theorem observeClassifiesAndConverts : Obligations.ObserveClassifiesAndConverts := by
  intro s r raw last wrap distance time ends
  have hadvance : classify s.params r s.operands.raw = .advance ↔
      distance < 2 ^ 31 ∨ (distance = 2 ^ 31 ∧ s.params.tieStale = false) := by
    rw [classify_eq_advance_iff, forwardDistance_toNat]
  rcases observe_cases s.params r s.operands.raw with ⟨hvalid, h⟩ | ⟨hvalid, hclass, h⟩ | ⟨hvalid, hclass, h⟩
  · rw [if_pos hvalid]
    exact exec_tsObserve_of_observe h
  · rw [if_neg (by simp [hvalid]), if_pos (hadvance.1 hclass)]
    rw [conv_eq_ofInt, advanceEpoch_toNat, advanceEpoch_eq_ofNat] at h
    exact exec_tsObserve_of_observe h
  · rw [if_neg (by simp [hvalid]), if_neg (mt hadvance.2 (by simp [hclass]))]
    rw [conv_eq_ofInt, staleEpoch_toNat] at h
    exact exec_tsObserve_of_observe h

/-- Settles O22: the three outcomes of `resync`, with the class, the signed drift and the new base read in integers. -/
theorem resyncAnchorsRecalibratesOrHardResets : Obligations.ResyncAnchorsRecalibratesOrHardResets := by
  intro s r raw last host distance w elapsed drifts ends anchored
  have hstale : classify s.params r s.operands.raw = .stale ↔
      2 ^ 31 < distance ∨ (distance = 2 ^ 31 ∧ s.params.tieStale = true) := by
    rw [classify_eq_stale_iff, forwardDistance_toNat]
  have hdrift : driftTooLarge s.params (conv r (advanceEpoch r s.operands.raw) s.operands.raw) s.operands.hostNow
      = drifts := by
    have hsigned := toInt_conv_sub r (advanceEpoch r s.operands.raw) s.operands.raw s.operands.hostNow
    rw [advanceEpoch_toNat] at hsigned
    unfold drifts
    cases hlimit : s.params.resyncMaxDriftUs with
    | none => exact driftTooLarge_of_none hlimit _ _
    | some m => exact driftTooLarge_of_some hlimit hsigned
  rcases resync_cases s.params r s.operands.raw s.operands.hostNow with
    ⟨hvalid, h⟩ | ⟨hvalid, hclass, h⟩ | ⟨hvalid, hclass, hsmall, h⟩
  · rw [if_pos hvalid]
    exact exec_tsResync_of_resync h
  · rw [if_neg (by simp [hvalid])]
    rcases hclass with hclass | ⟨hclass, hlarge⟩
    · rw [if_pos (hstale.1 hclass)]
      exact exec_tsResync_of_resync h
    · rw [if_neg (mt hstale.2 (by simp [hclass])), if_pos (hdrift.symm.trans hlarge)]
      exact exec_tsResync_of_resync h
  · rw [if_neg (by simp [hvalid]), if_neg (mt hstale.2 (by simp [hclass])), if_neg (by simp [← hdrift, hsmall])]
    rw [recalibrate_eq, advanceEpoch_toNat, advanceEpoch_eq_ofNat] at h
    exact exec_tsResync_of_resync h

/-- Settles O23: the resync leaves the sample as the newest one at its host time, and observing the newest sample changes nothing. -/
theorem resyncSampleConvertsToItsHostTime : Obligations.ResyncSampleConvertsToItsHostTime := by
  intro s
  obtain ⟨hvalid, hlast, htime⟩ := resync_newest s.params s.regs s.operands.raw s.operands.hostNow
  have hobserve := observe_lastRaw s.params hvalid
  rw [hlast, htime] at hobserve
  exact ⟨_, exec_tsResync_of_resync rfl, exec_tsObserve_of_observe hobserve⟩

/-- Settles O24: a lag below half the range leaves the sample more than half the range ahead, so it is stale. -/
theorem lateSampleConvertsBehindTheNewest : Obligations.LateSampleConvertsBehindTheNewest := by
  intro s hvalid lag hpos hlt
  have hlag : (s.regs.tsLastRaw - s.operands.raw).toNat = lag := by bv_omega
  have hdistance : 2 ^ 31 < (forwardDistance s.regs s.operands.raw).toNat := by
    rw [forwardDistance_toNat]
    omega
  have hstale : classify s.params s.regs s.operands.raw = .stale := (classify_eq_stale_iff ..).2 (.inl hdistance)
  have htime : newestTime s.regs - (s.regs.tsLastRaw - s.operands.raw).setWidth 64 =
      BitVec.ofInt 64 (s.regs.tsBaseHost.toInt + s.regs.tsWrap.toNat * 2 ^ 32 + s.regs.tsLastRaw.toNat
        - s.regs.tsZeroRaw.toNat - lag) := by
    rw [newestTime_eq_ofInt, setWidth_eq_ofInt, hlag, ← ofInt_sub_eq_sub]
  have hobserve := observe_of_stale hvalid hstale
  rw [htime] at hobserve
  exact exec_tsObserve_of_observe hobserve

end Sys2Proof.Proofs
end

section
/-! PROOF. The statements of spec/42_link_state.md: the transition function in arithmetic, what every command can do to the link
state, and what INGEST leaves in the registers. First the class and status bits as numbers, then the transition function, then the
commands, then the statements. -/

namespace Sys2Proof.Machine

/-! ### Class bits and status bits as numbers -/

/-- The mask of the `n` bits from bit `k` on, in arithmetic. -/
theorem and_bitsMask_eq_zero_iff {w k n : Nat} (hw : k + n ≤ w) (x : BitVec w) :
    x &&& BitVec.ofNat w ((2 ^ n - 1) * 2 ^ k) = 0 ↔ x.toNat / 2 ^ k % 2 ^ n = 0 := by
  have hmask : (2 ^ n - 1) * 2 ^ k < 2 ^ w :=
    calc (2 ^ n - 1) * 2 ^ k < 2 ^ n * 2 ^ k :=
          Nat.mul_lt_mul_of_pos_right (Nat.sub_one_lt (by positivity)) (by positivity)
      _ = 2 ^ (k + n) := by rw [Nat.pow_add, Nat.mul_comm]
      _ ≤ 2 ^ w := Nat.pow_le_pow_right (by decide) hw
  have hlow : (x.toNat &&& (2 ^ n - 1) * 2 ^ k) % 2 ^ k = 0 := by
    rw [Nat.and_mod_two_pow, Nat.mul_mod_left, Nat.and_zero]
  have hhigh : (x.toNat &&& (2 ^ n - 1) * 2 ^ k) / 2 ^ k = x.toNat / 2 ^ k % 2 ^ n := by
    rw [Nat.and_div_two_pow, Nat.mul_div_cancel _ (by positivity), Nat.and_two_pow_sub_one_eq_mod]
  have hand : x.toNat &&& (2 ^ n - 1) * 2 ^ k = x.toNat / 2 ^ k % 2 ^ n * 2 ^ k := by
    rw [← hhigh, Nat.div_mul_cancel (Nat.dvd_of_mod_eq_zero hlow)]
  rw [BitVec.toNat_eq, BitVec.toNat_and, BitVec.toNat_ofNat, Nat.mod_eq_of_lt hmask, hand]
  exact mul_eq_zero_iff_right (by positivity)

/-- A single bit is set in a word when the mask of that bit finds it. -/
theorem and_bitMask_bne_zero_iff {w k : Nat} (hw : k < w) (x : BitVec w) :
    (x &&& BitVec.ofNat w (2 ^ k) != 0) = true ↔ x.toNat / 2 ^ k % 2 = 1 := by
  have hzero := and_bitsMask_eq_zero_iff (n := 1) hw x
  rw [show (2 ^ 1 - 1) * 2 ^ k = 2 ^ k from Nat.one_mul _] at hzero
  rw [bne_iff_ne, ne_eq, hzero]
  omega

/-- The class bits are bits 28:0 of the id (R87). -/
theorem classBits_toNat (f : CanFrame) : (classBits f).toNat = f.id.toNat % 2 ^ 29 := canIdNumber_toNat f.id

/-- A class bit is set when its mask finds it (R87). -/
theorem classBits_and_bitMask_iff (f : CanFrame) {k : Nat} (hk : k < 32) :
    (classBits f &&& BitVec.ofNat 32 (2 ^ k) != 0) = true ↔ f.id.toNat % 2 ^ 29 / 2 ^ k % 2 = 1 := by
  rw [← classBits_toNat]
  exact and_bitMask_bne_zero_iff hk _

theorem hasCrtl_iff (f : CanFrame) : hasCrtl f = true ↔ f.id.toNat % 2 ^ 29 / 2 ^ 2 % 2 = 1 :=
  classBits_and_bitMask_iff f (k := 2) (by decide)

theorem hasBusOff_iff (f : CanFrame) : hasBusOff f = true ↔ f.id.toNat % 2 ^ 29 / 2 ^ 6 % 2 = 1 :=
  classBits_and_bitMask_iff f (k := 6) (by decide)

theorem hasRestarted_iff (f : CanFrame) : hasRestarted f = true ↔ f.id.toNat % 2 ^ 29 / 2 ^ 8 % 2 = 1 :=
  classBits_and_bitMask_iff f (k := 8) (by decide)

theorem hasCnt_iff (f : CanFrame) : hasCnt f = true ↔ f.id.toNat % 2 ^ 29 / 2 ^ 9 % 2 = 1 :=
  classBits_and_bitMask_iff f (k := 9) (by decide)

/-- The four conditions of a recognized frame, in arithmetic (R182). -/
theorem recognized_iff (f : CanFrame) :
    recognized f = true ↔
      f.isError = true ∧ f.payload.length = 8 ∧ f.id.toNat % 2 ^ 29 ≠ 0 ∧ f.id.toNat % 2 ^ 29 < 2 ^ 10 := by
  have hlength : dataLength f = 8 ↔ f.payload.length = 8 := BitVec.toNat_eq
  have hclass : classBits f = 0 ↔ f.id.toNat % 2 ^ 29 = 0 := by
    rw [← classBits_toNat]
    exact BitVec.toNat_eq
  have hundefined : classBits f &&& 0x1FFFFC00 = 0 ↔ f.id.toNat % 2 ^ 29 < 2 ^ 10 := by
    have hmask : classBits f &&& 0x1FFFFC00 = 0 ↔ (classBits f).toNat / 2 ^ 10 % 2 ^ 19 = 0 :=
      and_bitsMask_eq_zero_iff (k := 10) (n := 19) (by decide) _
    have hlt : (classBits f).toNat < 2 ^ 29 := canIdNumber_lt f.id
    rw [hmask, ← classBits_toNat]
    omega
  simp only [recognized, Bool.and_eq_true, beq_iff_eq, bne_iff_ne, ne_eq, hlength, hclass, hundefined, and_assoc]

/-! ### Levels -/

/-- The levels by severity, 0 to 2, in arithmetic on the controller status byte (R184). -/
theorem levelCrtl_toList_map_rank (b : Byte) :
    (levelCrtl b).toList.map levelRank =
      if b.toNat / 16 % 4 ≠ 0 then [2] else if b.toNat / 4 % 4 ≠ 0 then [1] else if b.toNat / 64 % 2 = 1 then [0] else [] := by
  have hpassive : b &&& 0x30 = 0 ↔ b.toNat / 16 % 4 = 0 := and_bitsMask_eq_zero_iff (k := 4) (n := 2) (by decide) b
  have hwarning : b &&& 0x0C = 0 ↔ b.toNat / 4 % 4 = 0 := and_bitsMask_eq_zero_iff (k := 2) (n := 2) (by decide) b
  have hactive : (b &&& 0x40 != 0) = true ↔ b.toNat / 64 % 2 = 1 := and_bitMask_bne_zero_iff (k := 6) (by decide) b
  simp only [levelCrtl, bne_iff_ne, ne_eq, hpassive, hwarning, hactive]
  split_ifs <;> rfl

/-- The level of the counters by severity (R185). -/
theorem levelCnt_map_rank (t r : BitVec 8) :
    [levelCnt t r].map levelRank =
      if 127 < max t.toNat r.toNat then [2] else if 96 < max t.toNat r.toNat then [1] else [0] := by
  unfold levelCnt
  split_ifs <;> rfl

/-- The evidence of an error frame by severity: controller status with CRTL, counters when they are loaded (R186). -/
theorem levelEvidence_map_rank (p : Params) (f : CanFrame) (r : Registers) :
    (levelEvidence p f r).map levelRank =
      (if hasCrtl f then (levelCrtl (controllerStatus f)).toList.map levelRank else [])
        ++ if loadsCounters p f then [levelCnt (candidateTx p f r) (candidateRx p f r)].map levelRank else [] := by
  rw [levelEvidence, List.map_append, apply_ite (List.map levelRank), apply_ite (List.map levelRank)]
  rfl

theorem levelRank_worse (a b : Level) : levelRank (worse a b) = max (levelRank a) (levelRank b) := by
  unfold worse
  split
  next hle => exact (max_eq_right hle).symm
  next hlt => exact (max_eq_left (Nat.le_of_not_le hlt)).symm

/-- The most severe level has the greatest rank (R181). -/
theorem max?_map_levelRank (ls : List Level) : (ls.map levelRank).max? = (maxLevel ls).map levelRank := by
  induction ls with
  | nil => rfl
  | cons l ls ih =>
    rw [List.map_cons, List.max?_cons, ih, maxLevel]
    cases maxLevel ls with
    | none => rfl
    | some m => exact congrArg some (levelRank_worse l m).symm

theorem worse_passive (l : Level) : worse l .passive = .passive ∧ worse .passive l = .passive := by
  cases l <;> decide

/-- Nothing is more severe than the passive level (R181). -/
theorem maxLevel_of_passive_mem {ls : List Level} (h : .passive ∈ ls) : maxLevel ls = some .passive := by
  induction ls with
  | nil => cases h
  | cons l ls ih =>
    rw [maxLevel]
    rcases List.mem_cons.1 h with rfl | htail
    · cases maxLevel ls with
      | none => rfl
      | some m => exact congrArg some (worse_passive m).2
    · rw [ih htail]
      exact congrArg some (worse_passive l).1

/-- A loaded counter above the high threshold gives ErrorPassive, whatever the controller status shows (R185, R186). -/
theorem levelNext_of_counter_high {p : Params} {f : CanFrame} {r : Registers} (hloads : loadsCounters p f = true)
    (hhigh : 127 < max (candidateTx p f r).toNat (candidateRx p f r).toNat) : levelNext p f r = .errorPassive := by
  have hcounters : levelCnt (candidateTx p f r) (candidateRx p f r) = .passive := if_pos hhigh
  have hmem : .passive ∈ levelEvidence p f r := by
    rw [levelEvidence, if_pos hloads, hcounters]
    exact List.mem_append_right _ (List.mem_singleton_self _)
  rw [levelNext, maxLevel_of_passive_mem hmem]
  rfl

/-! ### The transition function -/

/-- The arms of the transition function as a chain of conditions (R186). -/
theorem lsmNext_eq_ite (p : Params) (f : CanFrame) (r : Registers) :
    lsmNext p f r =
      if hasBusOff f then setLink r .busOff (candidateTx p f r) (candidateRx p f r)
      else if r.lsmState = .stopped ∨ r.lsmState = .sleeping then r
      else if hasRestarted f then setLink r .errorActive 0 0
      else if r.lsmState = .busOff then setLink r .busOff (candidateTx p f r) (candidateRx p f r)
      else setLink r (levelNext p f r) (candidateTx p f r) (candidateRx p f r) := by
  unfold lsmNext
  cases hstate : r.lsmState <;> simp

/-- A BUSOFF frame gives BusOff from every state (R186). -/
theorem lsmNext_of_busOff {f : CanFrame} (h : hasBusOff f = true) (p : Params) (r : Registers) :
    lsmNext p f r = setLink r .busOff (candidateTx p f r) (candidateRx p f r) := by
  rw [lsmNext_eq_ite, if_pos h]

/-- Stopped and Sleeping hold against every other frame (R186). -/
theorem lsmNext_of_halted {f : CanFrame} {r : Registers} (h : hasBusOff f = false)
    (hstate : r.lsmState = .stopped ∨ r.lsmState = .sleeping) (p : Params) : lsmNext p f r = r := by
  rw [lsmNext_eq_ite, if_neg (Bool.eq_false_iff.1 h), if_pos hstate]

/-- From a running state a RESTARTED frame gives ErrorActive with zero counters (R186). -/
theorem lsmNext_of_restarted {f : CanFrame} {r : Registers} (hbusOff : hasBusOff f = false)
    (hrestarted : hasRestarted f = true) (hstate : ¬ (r.lsmState = .stopped ∨ r.lsmState = .sleeping)) (p : Params) :
    lsmNext p f r = setLink r .errorActive 0 0 := by
  rw [lsmNext_eq_ite, if_neg (Bool.eq_false_iff.1 hbusOff), if_neg hstate, if_pos hrestarted]

/-- From a running state on the bus any other frame gives the level of its evidence (R186). -/
theorem lsmNext_of_level {f : CanFrame} {r : Registers} (hbusOff : hasBusOff f = false)
    (hrestarted : hasRestarted f = false) (hstate : ¬ (r.lsmState = .stopped ∨ r.lsmState = .sleeping))
    (honBus : r.lsmState ≠ .busOff) (p : Params) :
    lsmNext p f r = setLink r (levelNext p f r) (candidateTx p f r) (candidateRx p f r) := by
  rw [lsmNext_eq_ite, if_neg (Bool.eq_false_iff.1 hbusOff), if_neg hstate, if_neg (Bool.eq_false_iff.1 hrestarted),
    if_neg honBus]

/-- BusOff is reached by the class bit, or stays: no level stands for it (R192). -/
theorem hasBusOff_or_of_lsmNext_busOff {p : Params} {f : CanFrame} {r : Registers}
    (h : (lsmNext p f r).lsmState = .busOff) : hasBusOff f = true ∨ r.lsmState = .busOff := by
  rw [lsmNext_eq_ite] at h
  split_ifs at h with hbusOff _ _ hstays
  · exact .inl hbusOff
  · exact .inr h
  · cases h
  · exact .inr hstays
  · have hlevel : levelNext p f r = .busOff := h
    rcases levelNext_cases p f r with hold | ⟨l, hl⟩
    · exact .inr (hold.symm.trans hlevel)
    · exact absurd (hl.symm.trans hlevel) (levelState_ne_busOff l)

/-! ### LSM_CONSUME -/

/-- LSM_CONSUME of a recognized frame writes the registers of the transition function, and nothing else (R187). -/
theorem exec_lsmConsume_of_recognized {s : State} (h : recognized s.operands.frame = true) :
    exec .lsmConsume s = .next
      { s with
        regs := lsmNext s.params s.operands.frame s.regs
        result := some { result := .ok, outputs := .none } } := by
  change execLsmConsume s = _
  rw [execLsmConsume, State.consume, consumeResult, if_pos h, if_pos h]
  rfl

/-! ### The registers INGEST leaves -/

/-- The registers after a decoded frame: its timestamp is observed, and a recognized error frame of the receive path moves the link
state (R220). -/
def registersAfter (p : Params) (r : Registers) (d : Decoded) : Registers :=
  if d.echoId = rxSentinel ∧ d.frame.isError = true ∧ recognized d.frame = true then
    lsmNext p d.frame (observeDecoded p r d).1
  else (observeDecoded p r d).1

/-- Feeding a frame moves the registers when it is recognized (R187, R255). -/
theorem State.consume_regs_eq (s : State) (f : CanFrame) :
    (s.consume f).regs = if recognized f then lsmNext s.params f s.regs else s.regs := by
  unfold State.consume
  split <;> rfl

@[simp] theorem State.signalOverflow_params (s : State) (f : CanFrame) : (s.signalOverflow f).params = s.params :=
  (KeepsOwnFields.signalOverflow s f).params

/-- The host time a frame is stamped with is no evidence (R193, R220). -/
theorem sameEvidence_stampedFrame (p : Params) (r : Registers) (d : Decoded) :
    SameEvidence d.frame (stampedFrame p r d) := ⟨rfl, rfl, rfl, rfl, rfl⟩

/-- INGEST of a decoded buffer leaves these registers (R220, R222). -/
theorem State.ingestDecoded_regs (s : State) (d : Decoded) :
    (s.ingestDecoded d).regs = registersAfter s.params s.regs d := by
  have hsame := sameEvidence_stampedFrame s.params s.regs d
  unfold State.ingestDecoded registersAfter
  rcases State.route_cases _ d.echoId (stampedFrame s.params s.regs d) with
    ⟨hecho, (herror : d.frame.isError = true), h⟩ | ⟨_, (herror : d.frame.isError = false), h⟩ | ⟨hecho, h⟩ <;> rw [h]
  · rw [State.finish_regs, hsame.consume_eq, State.consume_regs_eq]
    simp [hecho, herror]
  · simp [herror]
  · simp [hecho]

/-! ### What a command can do to the link state -/

/-- The link-state registers are the same. -/
structure Registers.SameLink (r r' : Registers) : Prop where
  state_eq : r'.lsmState = r.lsmState
  tx_eq : r'.lsmTxErr = r.lsmTxErr
  rx_eq : r'.lsmRxErr = r.lsmRxErr

/-- The registers `r'` a command can leave where it found `s`, as far as the link state goes: kept, set by a control command, or
moved by a recognized frame the command feeds to the state machine (R186 to R189, R229). -/
inductive LinkWrite (s : State) : Instr → Registers → Prop
  | kept (i : Instr) {r' : Registers} (same : s.regs.SameLink r') : LinkWrite s i r'
  | stop : LinkWrite s .lsmStop { s.regs with lsmState := .stopped }
  | sleep : LinkWrite s .lsmSleep { s.regs with lsmState := .sleeping }
  | start : LinkWrite s .channelStart Registers.reset
  | fed {i : Instr} {f : CanFrame} {r : Registers} (feeds : Safety.consumedFrame i s = some f)
      (isRecognized : recognized f = true) (same : s.regs.SameLink r) : LinkWrite s i (lsmNext s.params f r)

theorem observeDecoded_sameLink (p : Params) (r : Registers) (d : Decoded) : r.SameLink (observeDecoded p r d).1 := by
  obtain ⟨lastRaw, wrap, _, h⟩ := observeDecoded_regs p r d
  rw [h]
  exact ⟨rfl, rfl, rfl⟩

/-- INGEST feeds the error frames of the receive path (R220, R224). -/
theorem consumedFrame_ingest_of_error {mode : ChannelMode} {s : State} {d : Decoded}
    (h : decodeFrame mode s.operands.buf = .ok d) (hecho : d.echoId = rxSentinel) (herror : d.frame.isError = true) :
    Safety.consumedFrame (.ingest mode) s = some d.frame := by
  simp only [Safety.consumedFrame, h, hecho, herror, and_self, if_true]

namespace LinkWrite

/-- The commands that feed no frame follow the write table (R33). -/
theorem of_regWrite {s : State} {i : Instr} {r' : Registers} (h : RegWrite s.regs i r') :
    LinkWrite s i r' ∨ i = .lsmConsume ∨ ∃ mode, i = .ingest mode := by
  cases h with
  | nothing | observe | resync => exact .inl (.kept _ ⟨rfl, rfl, rfl⟩)
  | stop => exact .inl .stop
  | sleep => exact .inl .sleep
  | start => exact .inl .start
  | consume => exact .inr (.inl rfl)
  | ingest mode => exact .inr (.inr ⟨mode, rfl⟩)

/-- INGEST of a decoded buffer feeds its frame when it is a recognized error frame of the receive path (R220). -/
theorem ingestDecoded {mode : ChannelMode} {s : State} {d : Decoded} (h : decodeFrame mode s.operands.buf = .ok d) :
    LinkWrite s (.ingest mode) (s.ingestDecoded d).regs := by
  have hsame := observeDecoded_sameLink s.params s.regs d
  rw [State.ingestDecoded_regs, registersAfter]
  split
  next hfeeds =>
    obtain ⟨hecho, herror, hrecognized⟩ := hfeeds
    exact .fed (consumedFrame_ingest_of_error h hecho herror) hrecognized hsame
  next => exact .kept _ hsame

/-- Everything a command that goes on can do to the link state. -/
theorem of_exec {i : Instr} {s t : State} (h : exec i s = .next t) : LinkWrite s i t.regs := by
  rcases of_regWrite (RegWrite.of_exec h) with hwrite | rfl | ⟨mode, rfl⟩
  · exact hwrite
  · cases h
    rw [State.finish_regs, State.consume_regs_eq]
    split
    next hrecognized => exact .fed rfl hrecognized ⟨rfl, rfl, rfl⟩
    next => exact .kept _ ⟨rfl, rfl, rfl⟩
  · obtain ⟨-, rfl⟩ := State.withBuffer_eq_next.1 h
    split
    next d hdecode => exact ingestDecoded hdecode
    next => exact .kept _ ⟨rfl, rfl, rfl⟩

variable {s : State} {i : Instr} {r' : Registers}

/-- BusOff is entered by a recognized BUSOFF frame only (R192). -/
theorem busOff_entered (h : LinkWrite s i r') (hbusOff : r'.lsmState = .busOff) :
    s.regs.lsmState = .busOff ∨
    ∃ f, Safety.consumedFrame i s = some f ∧ recognized f = true ∧ hasBusOff f = true := by
  cases h with
  | kept _ same => exact .inl (same.state_eq.symm.trans hbusOff)
  | stop | sleep | start => cases hbusOff
  | fed hfed hrecognized same =>
    rcases hasBusOff_or_of_lsmNext_busOff hbusOff with hbit | hstays
    · exact .inr ⟨_, hfed, hrecognized, hbit⟩
    · exact .inl (same.state_eq.symm.trans hstays)

/-- Stopped and Sleeping are left by a control command or by a recognized BUSOFF frame only (R186, R188, R189, R229). -/
theorem halted_left (h : LinkWrite s i r') (hstate : s.regs.lsmState = .stopped ∨ s.regs.lsmState = .sleeping) :
    s.regs.SameLink r' ∨
    (i = .channelStart ∧ r'.lsmState = .errorActive) ∨ (i = .lsmStop ∧ r'.lsmState = .stopped) ∨
    (i = .lsmSleep ∧ r'.lsmState = .sleeping) ∨
    (r'.lsmState = .busOff ∧ ∃ f, Safety.consumedFrame i s = some f ∧ recognized f = true ∧ hasBusOff f = true) := by
  cases h with
  | kept _ same => exact .inl same
  | start => exact .inr (.inl ⟨rfl, rfl⟩)
  | stop => exact .inr (.inr (.inl ⟨rfl, rfl⟩))
  | sleep => exact .inr (.inr (.inr (.inl ⟨rfl, rfl⟩)))
  | @fed _ f r hfed hrecognized same =>
    cases hbit : hasBusOff f with
    | true => exact .inr (.inr (.inr (.inr ⟨by rw [lsmNext_of_busOff hbit, setLink], f, hfed, hrecognized, hbit⟩)))
    | false => exact .inl (by rwa [lsmNext_of_halted hbit (by rwa [same.state_eq])])

end LinkWrite

/-! ### The overflow flag of a buffer -/

/-- Two buffers of one length agree but for the overflow flag, bit 0 of the flags byte (R79). -/
structure AgreeUpToOverflow (buf other : List Byte) : Prop where
  length_eq : other.length = buf.length
  byteAt_eq : ∀ i, i ≠ 10 → byteAt other i = byteAt buf i
  flags_div_eq : (flagsOf other).toNat / 2 = (flagsOf buf).toNat / 2

/-- A decoded frame with another overflow flag. -/
def Decoded.withOverflow (b : Bool) (d : Decoded) : Decoded := { d with frame := { d.frame with overflowFlag := b } }

/-- A buffer from an offset on, read byte by byte. -/
theorem drop_eq_map_range (buf : List Byte) (off : Nat) :
    buf.drop off = (List.range (buf.length - off)).map fun i => byteAt buf (off + i) := by
  rw [← take_drop_eq_map_range (Nat.le_refl _), ← List.length_drop, List.take_length]

namespace AgreeUpToOverflow

variable {buf other : List Byte}

/-- The words of the layout do not hold the flags byte (R72). -/
theorem rd32_eq (h : AgreeUpToOverflow buf other) {off : Nat} (hoff : off + 3 < 10 ∨ 10 < off) :
    rd32 other off = rd32 buf off := by
  simp only [rd32, h.byteAt_eq (off + 3) (by omega), h.byteAt_eq (off + 2) (by omega), h.byteAt_eq (off + 1) (by omega),
    h.byteAt_eq off (by omega)]

/-- The other flags stand above the overflow flag. -/
theorem flag_eq (h : AgreeUpToOverflow buf other) (k : Nat) :
    (flagsOf other).getLsbD (k + 1) = (flagsOf buf).getLsbD (k + 1) := by
  have hbit := congrArg (Nat.testBit · k) h.flags_div_eq
  simp only [Nat.testBit_div_two] at hbit
  exact hbit

theorem frameOf_eq (h : AgreeUpToOverflow buf other) (dl : BitVec 7) :
    frameOf other dl = { frameOf buf dl with overflowFlag := flagOverflow (flagsOf other) } := by
  have hid : idWord other = idWord buf := h.rd32_eq (by decide)
  have hchannel : byteAt other 9 = byteAt buf 9 := h.byteAt_eq 9 (by decide)
  have hpayload : other.drop headerLength = buf.drop headerLength := by
    rw [drop_eq_map_range, drop_eq_map_range, h.length_eq]
    exact List.map_congr_left fun i _ => h.byteAt_eq _ (by simp only [headerLength]; omega)
  simp only [frameOf, flagFd, flagBrs, flagEsi, hid, hchannel, hpayload, h.flag_eq]

theorem decodeBody_eq (h : AgreeUpToOverflow buf other) (mode : ChannelMode) (dl : BitVec 7) :
    decodeBody mode other dl =
      (decodeBody mode buf dl).map (Decoded.withOverflow (flagOverflow (flagsOf other))) := by
  have hid : idWord other = idWord buf := h.rd32_eq (by decide)
  have hecho : rd32 other 0 = rd32 buf 0 := h.rd32_eq (by decide)
  have hoffset : 10 < timestampOffset mode := Nat.lt_add_right _ (by decide : 10 < headerLength)
  simp only [decodeBody, h.length_eq, hid, hecho, h.rd32_eq (.inr hoffset), h.frameOf_eq]
  split_ifs <;> rfl

/-- The overflow flag reaches the decoded frame and nothing else of what DECODE answers (R79, R110). -/
theorem decodeFrame_eq (h : AgreeUpToOverflow buf other) (mode : ChannelMode) :
    decodeFrame mode other =
      (decodeFrame mode buf).map (Decoded.withOverflow (flagOverflow (flagsOf other))) := by
  have hcode : dlcCode other = dlcCode buf := congrArg BitVec.toNat (h.byteAt_eq 8 (by decide))
  have hfd : flagFd (flagsOf other) = flagFd (flagsOf buf) := h.flag_eq 0
  simp only [decodeFrame, h.length_eq, hcode, hfd, h.decodeBody_eq]
  split_ifs
  · rfl
  · rfl
  · rfl
  · split <;> rfl

end AgreeUpToOverflow

/-- The overflow flag moves no register (R193, R223). -/
theorem registersAfter_withOverflow (p : Params) (r : Registers) (d : Decoded) (b : Bool) :
    registersAfter p r (d.withOverflow b) = registersAfter p r d := by
  have hsame : SameEvidence d.frame (d.withOverflow b).frame := ⟨rfl, rfl, rfl, rfl, rfl⟩
  have hobserve : observeDecoded p r (d.withOverflow b) = observeDecoded p r d := rfl
  have hecho : (d.withOverflow b).echoId = d.echoId := rfl
  have herror : (d.withOverflow b).frame.isError = d.frame.isError := rfl
  simp only [registersAfter, hsame.recognized_eq, hsame.lsmNext_eq, hobserve, hecho, herror]

end Sys2Proof.Machine

namespace Sys2Proof.Proofs

open Sys2Proof.Machine Sys2Proof.Safety

/-- Settles O26: the arms of the transition function, with the class bits, the levels and the counters read in arithmetic. -/
theorem recognizedFrameMovesTheLinkState : Obligations.RecognizedFrameMovesTheLinkState := by
  intro s f c herror hlength hnonzero hdefined r status loads tx rx worst byStatus byCounters level ends
  have hexec := exec_lsmConsume_of_recognized ((recognized_iff f).2 ⟨herror, hlength, hnonzero, hdefined⟩)
  have hends {state : LinkState} {t' r' : BitVec 8} (h : lsmNext s.params f r = setLink r state t' r') :
      ends state t' r' := by
    rw [h] at hexec
    exact hexec
  have hloads : loadsCounters s.params f = loads := by
    rw [Bool.eq_iff_iff, loadsCounters, Bool.or_eq_true, hasCnt_iff]
    simp [loads, c]
  have htx : candidateTx s.params f r = tx := by rw [candidateTx, hloads]; rfl
  have hrx : candidateRx s.params f r = rx := by rw [candidateRx, hloads]; rfl
  have hranks : (levelEvidence s.params f r).map levelRank = byStatus ++ byCounters := by
    have hcrtl : hasCrtl f = true ↔ c / 2 ^ 2 % 2 = 1 := hasCrtl_iff f
    simp only [levelEvidence_map_rank, levelCrtl_toList_map_rank, levelCnt_map_rank, hcrtl, hloads, htx, hrx]
    rfl
  have hlevel : levelNext s.params f r = level := by
    unfold level levelNext
    rw [← hranks, max?_map_levelRank]
    cases maxLevel (levelEvidence s.params f r) with
    | none => rfl
    | some l => cases l <;> rfl
  have hnext := lsmNext_eq_ite s.params f r
  have hbusOff : hasBusOff f = true ↔ c / 2 ^ 6 % 2 = 1 := hasBusOff_iff f
  have hrestarted : hasRestarted f = true ↔ c / 2 ^ 8 % 2 = 1 := hasRestarted_iff f
  simp only [hbusOff, hrestarted, htx, hrx, hlevel] at hnext
  split_ifs at hnext ⊢ <;> exact hends hnext

/-- Settles O30: only a fed frame can enter BusOff, and the transition function enters it by the class bit alone. -/
theorem busOffIsEnteredByTheClassBitOnly : Obligations.BusOffIsEnteredByTheClassBitOnly := by
  intro i s t h hbusOff
  rcases (LinkWrite.of_exec h).busOff_entered hbusOff with hstays | ⟨f, hfed, hrecognized, hbit⟩
  · exact .inl hstays
  · obtain ⟨herror, hlength, _, hdefined⟩ := (recognized_iff f).1 hrecognized
    have hclass := (hasBusOff_iff f).1 hbit
    exact .inr ⟨f, hfed, herror, hlength, hdefined, by omega⟩

/-- Settles O31: from Stopped and Sleeping a fed frame moves nothing unless it has the BUSOFF class bit. -/
theorem stoppedAndSleepingAreLeftByCommandOrBusOff : Obligations.StoppedAndSleepingAreLeftByCommandOrBusOff := by
  intro i s t hstate h
  rcases (LinkWrite.of_exec h).halted_left hstate with
    ⟨hsame, htx, hrx⟩ | hstart | hstop | hsleep | ⟨hbusOff, f, hfed, hrecognized, hbit⟩
  · exact .inl ⟨hsame, htx, hrx⟩
  · exact .inr (.inl hstart)
  · exact .inr (.inr (.inl hstop))
  · exact .inr (.inr (.inr (.inl hsleep)))
  · obtain ⟨herror, hlength, _, _⟩ := (recognized_iff f).1 hrecognized
    have hclass := (hasBusOff_iff f).1 hbit
    exact .inr (.inr (.inr (.inr ⟨hbusOff, f, hfed, herror, hlength, by omega⟩)))

/-- Settles O38: the buffers decode alike but for the flag, which is no part of what moves a register. -/
theorem overflowFlagNeverMovesARegister : Obligations.OverflowFlagNeverMovesARegister := by
  intro mode s other hfits hlength hbytes hflags
  have hagree : AgreeUpToOverflow s.operands.buf other := ⟨hlength, hbytes, hflags⟩
  refine ⟨_, _, exec_ingest_of_fits hfits,
    exec_ingest_of_fits (s := s.latch { s.operands with buf := other }) (hlength.trans_le hfits), ?_⟩
  rw [State.latch_operands, hagree.decodeFrame_eq]
  cases decodeFrame mode s.operands.buf with
  | error k => rfl
  | ok d =>
    calc (State.ingestDecoded (s.latch { s.operands with buf := other }) (d.withOverflow _)).regs
        = registersAfter s.params s.regs (d.withOverflow _) := State.ingestDecoded_regs _ _
      _ = registersAfter s.params s.regs d := registersAfter_withOverflow ..
      _ = (s.ingestDecoded d).regs := (s.ingestDecoded_regs d).symm

/-- Settles O28: each property is one arm of the transition function; 200 is above the high threshold. -/
theorem sourceLinkPropertiesHold : Obligations.SourceLinkPropertiesHold := by
  intro s f c herror hlength hdefined
  have hexec (hnonzero : c ≠ 0) :=
    exec_lsmConsume_of_recognized ((recognized_iff f).2 ⟨herror, hlength, hnonzero, hdefined⟩)
  have hnotBusOff (h : c / 2 ^ 6 % 2 = 0) : hasBusOff f = false := by
    rw [Bool.eq_false_iff, ne_eq, hasBusOff_iff]
    exact Nat.mod_two_ne_one.2 h
  refine ⟨fun hstate hcnt hnoBusOff hnoRestart hdata => ⟨_, hexec (by omega), ?_⟩,
    fun hbit => ⟨_, hexec (by omega), ?_⟩, fun hstate hnoBusOff hbit => ⟨_, hexec (by omega), ?_⟩⟩
  · have hnotRestarted : hasRestarted f = false := by
      rw [Bool.eq_false_iff, ne_eq, hasRestarted_iff]
      exact Nat.mod_two_ne_one.2 hnoRestart
    have hloads : loadsCounters s.params f = true := by rw [loadsCounters, (hasCnt_iff f).2 hcnt, Bool.true_or]
    have htx : candidateTx s.params f s.regs = 200 := (if_pos hloads).trans hdata
    have hhigh : 127 < max (candidateTx s.params f s.regs).toNat (candidateRx s.params f s.regs).toNat := by
      rw [htx]
      exact lt_max_of_lt_left (by decide)
    rw [lsmNext_of_level (hnotBusOff hnoBusOff) hnotRestarted (by simp [hstate]) (by simp [hstate]),
      levelNext_of_counter_high hloads hhigh, htx]
    exact ⟨rfl, rfl⟩
  · rw [lsmNext_of_busOff ((hasBusOff_iff f).2 hbit)]
    rfl
  · rw [lsmNext_of_restarted (hnotBusOff hnoBusOff) ((hasRestarted_iff f).2 hbit) (by simp [hstate])]
    exact ⟨rfl, rfl, rfl⟩

/-- Settles O32: the two commands write LSM_STATE and end with OK. -/
theorem stopAndSleepWriteTheStateOnly : Obligations.StopAndSleepWriteTheStateOnly :=
  fun _ => ⟨rfl, rfl⟩

end Sys2Proof.Proofs
end

section
/-! PROOF. The statements of spec/43_ingest_control.md: INGEST of a buffer that DECODE rejects, and INGEST of a decoded buffer as
DECODE, TS_OBSERVE, the overflow event and the routing. First what each of these parts leaves, then the statements. -/

namespace Sys2Proof.Machine

/-! ### INGEST by what DECODE says of the buffer -/

/-- A DECODE that rejects its buffer is known by its result record (R251). -/
theorem decodeFrame_error_of_exec_decode {mode : ChannelMode} {s t : State} {k : MalformedCause}
    (h : exec (.decode mode) s = .next t) (hresult : t.result = some { result := .malformedFrame k, outputs := .none }) :
    s.operands.bufferFits ∧ decodeFrame mode s.operands.buf = .error k := by
  obtain ⟨hfits, rfl⟩ := State.withBuffer_eq_next.1 h
  refine ⟨hfits, ?_⟩
  split at hresult
  next => cases hresult
  next k' hk => cases hresult; exact hk

theorem exec_ingest_of_error {mode : ChannelMode} {s : State} {k : MalformedCause} (hfits : s.operands.bufferFits)
    (h : decodeFrame mode s.operands.buf = .error k) : exec (.ingest mode) s = .next (s.ingestMalformed k) := by
  rw [exec_ingest_of_fits hfits, h]

theorem exec_ingest_of_ok {mode : ChannelMode} {s : State} {d : Decoded} (hfits : s.operands.bufferFits)
    (h : decodeFrame mode s.operands.buf = .ok d) : exec (.ingest mode) s = .next (s.ingestDecoded d) := by
  rw [exec_ingest_of_fits hfits, h]

/-! ### The parts of INGEST -/

theorem State.emit_events_cases (s : State) (e : Event) :
    (s.emit e).events = s.events ∨ (s.emit e).events = s.events ++ [e] := by
  rcases s.emit_cases e with h | h <;> rw [h]
  · exact .inl rfl
  · exact .inr rfl

/-- The overflow signal writes the event port and its count of draws only (R223). -/
theorem State.signalOverflow_frame (s : State) (f : CanFrame) :
    s.signalOverflow f =
      { s with events := (s.signalOverflow f).events, eventDraws := (s.signalOverflow f).eventDraws } := by
  rcases s.signalOverflow_cases f with ⟨_, h⟩ | ⟨_, h⟩ <;> rw [h]
  rfl

/-- RxOverflow is offered exactly when the overflow flag is set (R223, R258). -/
theorem State.signalOverflow_offers (s : State) (f : CanFrame) :
    if f.overflowFlag = true then
      (s.signalOverflow f).eventDraws = s.eventDraws + 1 ∧
        ((s.signalOverflow f).events = s.events ∨ (s.signalOverflow f).events = s.events ++ [.rxOverflow])
    else (s.signalOverflow f).eventDraws = s.eventDraws ∧ (s.signalOverflow f).events = s.events := by
  rcases s.signalOverflow_cases f with ⟨hflag, h⟩ | ⟨hflag, h⟩ <;> rw [h, hflag]
  · exact ⟨rfl, s.emit_events_cases _⟩
  · exact ⟨rfl, rfl⟩

/-- Without a raw timestamp nothing is observed (R222). -/
theorem observeDecoded_of_none {d : Decoded} (h : d.rawTs = none) (p : Params) (r : Registers) :
    observeDecoded p r d = (r, none) := by
  rw [observeDecoded, h]

/-- TS_OBSERVE of the raw timestamp of a decoded frame leaves the registers and answers the time that INGEST takes from it (R222). -/
theorem exec_tsObserve_of_rawTs {d : Decoded} {raw : Word} (h : d.rawTs = some raw) (s : State) :
    exec .tsObserve (s.latch { s.operands with raw := raw }) = .next
      { s.latch { s.operands with raw := raw } with
        regs := (observeDecoded s.params s.regs d).1
        result := some { result := .ok, outputs := .observed (observeDecoded s.params s.regs d).2 } } := by
  refine exec_tsObserve_of_observe ?_
  rw [observeDecoded, h]
  rfl

/-- Routing an error frame of the receive path is LSM_CONSUME of it, apart from the operand ports and the output of the record
(R187, R220). -/
theorem State.route_of_error_eq_lsmConsume (s : State) {echoId : Word} {f : CanFrame} (hecho : echoId = rxSentinel)
    (herror : f.isError = true) :
    ∃ (t : State) (res : CommandResult),
      exec .lsmConsume (s.latch { s.operands with frame := f }) = .next t ∧
      t.result = some { result := res, outputs := .none } ∧
      s.route echoId f =
        { t with operands := s.operands, result := some { result := res, outputs := .ingested .error } } := by
  refine ⟨_, _, rfl, rfl, ?_⟩
  rw [s.route_of_error hecho herror, State.latch_operands, State.consume_latch]
  rcases s.consume_cases f with ⟨_, h, _⟩ | ⟨_, h, _⟩ <;> rw [h] <;> rfl

end Sys2Proof.Machine

namespace Sys2Proof.Proofs

open Sys2Proof.Machine

/-- Settles O36: the registers and the time are those of `observeDecoded`, the events those of `signalOverflow`, and the three cases
those of `route`. -/
theorem ingestIsDecodeObserveThenRoute : Obligations.IngestIsDecodeObserveThenRoute := by
  intro mode s d hfits hdecode
  let stamped : State := { s with regs := (observeDecoded s.params s.regs d).1 }
  let signalled : State := stamped.signalOverflow d.frame
  let f : CanFrame := stampedFrame s.params s.regs d
  have hsignalled : signalled = { stamped with events := signalled.events, eventDraws := signalled.eventDraws } :=
    stamped.signalOverflow_frame d.frame
  have hingest : exec (.ingest mode) s = .next (signalled.route d.echoId f) := exec_ingest_of_ok hfits hdecode
  refine ⟨exec_decode_of_ok hfits hdecode, stamped.regs, f.timestamp, signalled.events, signalled.eventDraws, ?_,
    stamped.signalOverflow_offers d.frame, ?_⟩
  · split
    next hraw =>
      have hobserve := observeDecoded_of_none hraw s.params s.regs
      exact ⟨congrArg Prod.fst hobserve, congrArg Prod.snd hobserve⟩
    next raw hraw => exact exec_tsObserve_of_rawTs hraw s
  · rw [hingest, hsignalled]
    intro frame observed
    split
    next herror =>
      obtain ⟨t, res, hconsume, hres, hroute⟩ := observed.route_of_error_eq_lsmConsume (f := frame) herror.1 herror.2
      exact ⟨t, res, hconsume, hres, congrArg _ hroute⟩
    next hnotError =>
      split
      next hecho =>
        have hdata : frame.isError = false := Bool.eq_false_iff.2 fun herror => hnotError ⟨hecho, herror⟩
        exact congrArg _ (observed.route_of_data hecho hdata)
      next hecho => exact congrArg _ (observed.route_of_echoId hecho)

/-- Settles O35: the record of DECODE says that the buffer does not decode, and then INGEST only emits the event and reports. -/
theorem ingestDiscardsWhatDecodeRejects : Obligations.IngestDiscardsWhatDecodeRejects := by
  intro mode s k hdecode
  obtain ⟨hfits, herror⟩ := decodeFrame_error_of_exec_decode hdecode rfl
  exact ⟨_, s.emit_events_cases (.malformedFrame k), exec_ingest_of_error hfits herror⟩

end Sys2Proof.Proofs
end

section
/-! PROOF. The statements of spec/60_exceptions.md: which events a command puts on the event port, what LSM_CONSUME does with a frame
that is not recognized, and the host's own actions. First what each operation offers to the event port, then the actions, then the
statements. -/

namespace Sys2Proof.Machine

/-! ### What a command offers to the event port -/

theorem offeredEvents_lsmConsume (s : State) :
    Safety.offeredEvents .lsmConsume s = if recognized s.operands.frame then [] else [.unrecognizedErrorFrame] := rfl

theorem offeredEvents_ingest_of_ok {mode : ChannelMode} {s : State} {d : Decoded}
    (h : decodeFrame mode s.operands.buf = .ok d) :
    Safety.offeredEvents (.ingest mode) s = Safety.eventsOfDecoded d := by
  simp only [Safety.offeredEvents, h]

theorem offeredEvents_ingest_of_error {mode : ChannelMode} {s : State} {k : MalformedCause}
    (h : decodeFrame mode s.operands.buf = .error k) :
    Safety.offeredEvents (.ingest mode) s = [.malformedFrame k] := by
  simp only [Safety.offeredEvents, h]

/-- From `s` to `t` these events are offered, in order: one draw each, and the event port gains those that are not lost (R256, R258). -/
structure Offers (offered : List Event) (s t : State) : Prop where
  events : ∃ kept : List Event, kept.Sublist offered ∧ t.events = s.events ++ kept
  draws : t.eventDraws = s.eventDraws + offered.length

namespace Offers

/-- Whatever leaves the event port and the draws as they are offers nothing. -/
theorem of_eq {s t : State} (hevents : t.events = s.events) (hdraws : t.eventDraws = s.eventDraws) : Offers [] s t :=
  ⟨⟨[], .slnil, by rw [hevents, List.append_nil]⟩, hdraws⟩

/-- What is offered first enters the port first (R257). -/
theorem trans {first later : List Event} {s t u : State} (hst : Offers first s t) (htu : Offers later t u) :
    Offers (first ++ later) s u := by
  obtain ⟨⟨kept, hkept, hevents⟩, hdraws⟩ := hst
  obtain ⟨⟨kept', hkept', hevents'⟩, hdraws'⟩ := htu
  exact ⟨⟨kept ++ kept', hkept.append hkept', by rw [hevents', hevents, List.append_assoc]⟩,
    by rw [hdraws', hdraws, List.length_append, Nat.add_assoc]⟩

theorem finish {offered : List Event} {s t : State} (h : Offers offered s t) (r : CommandResult) (o : Outputs) :
    Offers offered s (t.finish r o) := ⟨h.events, h.draws⟩

theorem emit (s : State) (e : Event) : Offers [e] s (s.emit e) := by
  refine ⟨?_, rfl⟩
  rcases s.emit_events_cases e with hlost | happended
  · exact ⟨[], List.nil_sublist _, by rw [hlost, List.append_nil]⟩
  · exact ⟨[e], .refl _, happended⟩

/-- Only a frame that is not recognized offers an event (R255). -/
theorem consume (s : State) (f : CanFrame) :
    Offers (if recognized f then [] else [.unrecognizedErrorFrame]) s (s.consume f) := by
  rcases s.consume_cases f with ⟨hrecognized, h, _⟩ | ⟨hrecognized, h, _⟩ <;> rw [h, hrecognized]
  · exact of_eq rfl rfl
  · exact emit s _

theorem signalOverflow (s : State) (f : CanFrame) :
    Offers (if f.overflowFlag then [.rxOverflow] else []) s (s.signalOverflow f) := by
  rcases s.signalOverflow_cases f with ⟨hflag, h⟩ | ⟨hflag, h⟩ <;> rw [h, hflag]
  · exact emit s _
  · exact of_eq rfl rfl

/-- Routing offers an event for an error frame of the receive path that is not recognized only (R220, R255). -/
theorem route (s : State) (echoId : Word) (f : CanFrame) :
    Offers (if echoId = rxSentinel ∧ f.isError = true ∧ recognized f = false then [.unrecognizedErrorFrame] else []) s
      (s.route echoId f) := by
  rcases s.route_cases echoId f with ⟨hecho, herror, h⟩ | ⟨_, hdata, h⟩ | ⟨hecho, h⟩ <;> rw [h]
  · have hoffered : (if recognized f then [] else [Event.unrecognizedErrorFrame]) =
        if echoId = rxSentinel ∧ f.isError = true ∧ recognized f = false then [.unrecognizedErrorFrame] else [] := by
      cases recognized f <;> simp [hecho, herror]
    rw [← hoffered]
    exact (consume s f).finish _ _
  · rw [if_neg fun hroute => by simp [hdata] at hroute]
    exact of_eq rfl rfl
  · rw [if_neg fun hroute => hecho hroute.1]
    exact of_eq rfl rfl

/-- INGEST of a decoded buffer signals the overflow first and then routes (R220, R257). -/
theorem ingestDecoded (s : State) (d : Decoded) : Offers (Safety.eventsOfDecoded d) s (s.ingestDecoded d) :=
  have hobserve : Offers [] s { s with regs := (observeDecoded s.params s.regs d).1 } := of_eq rfl rfl
  (hobserve.trans (signalOverflow _ d.frame)).trans (route _ d.echoId (stampedFrame s.params s.regs d))

theorem ingestMalformed (s : State) (k : MalformedCause) : Offers [.malformedFrame k] s (s.ingestMalformed k) :=
  (emit s (.malformedFrame k)).finish _ _

/-- LSM_CONSUME and INGEST are the only commands that offer events (R256). -/
theorem of_silent {i : Instr} {s t : State} (h : exec i s = .next t) (hconsume : i ≠ .lsmConsume)
    (hingest : ∀ mode, i ≠ .ingest mode) : Offers [] s t := by
  rcases exec_next_cases h with
    ⟨_, _, rfl⟩ | ⟨_, _, _, _, rfl⟩ | ⟨hi, _⟩ | ⟨mode, _, hi, _⟩ | ⟨mode, _, hi, _⟩
  · exact of_eq rfl rfl
  · exact of_eq rfl rfl
  · exact absurd hi hconsume
  · exact absurd hi (hingest mode)
  · exact absurd hi (hingest mode)

/-- Every command that goes on offers the events the claims name for it. -/
theorem of_exec {i : Instr} {s t : State} (h : exec i s = .next t) : Offers (Safety.offeredEvents i s) s t := by
  cases i with
  | lsmConsume =>
    cases h
    rw [offeredEvents_lsmConsume]
    exact (consume s s.operands.frame).finish _ _
  | ingest mode =>
    obtain ⟨-, rfl⟩ := State.withBuffer_eq_next.1 h
    cases hdecode : decodeFrame mode s.operands.buf with
    | ok d =>
      rw [offeredEvents_ingest_of_ok hdecode]
      exact ingestDecoded s d
    | error k =>
      rw [offeredEvents_ingest_of_error hdecode]
      exact ingestMalformed s k
  | decode | encode | tsObserve | tsResync | lsmStop | lsmSleep | channelStart | stateRead | regRead =>
    exact of_silent h nofun nofun

end Offers

/-- A decoded frame offers at most an overflow and a report of its class (R257). -/
theorem length_eventsOfDecoded_le (d : Decoded) : (Safety.eventsOfDecoded d).length ≤ 2 := by
  have hone (p : Prop) [Decidable p] (e : Event) : (if p then [e] else []).length ≤ 1 := by split <;> simp
  rw [Safety.eventsOfDecoded, List.length_append]
  exact Nat.add_le_add (hone _ _) (hone _ _)

theorem length_offeredEvents_le (i : Instr) (s : State) : (Safety.offeredEvents i s).length ≤ 2 := by
  cases i with
  | lsmConsume =>
    rw [offeredEvents_lsmConsume]
    split <;> simp
  | ingest mode =>
    cases hdecode : decodeFrame mode s.operands.buf with
    | ok d =>
      rw [offeredEvents_ingest_of_ok hdecode]
      exact length_eventsOfDecoded_le d
    | error k =>
      rw [offeredEvents_ingest_of_error hdecode]
      exact Nat.le_succ 1
  | decode | encode | tsObserve | tsResync | lsmStop | lsmSleep | channelStart | stateRead | regRead => exact Nat.zero_le 2

/-! ### LSM_CONSUME of any other frame -/

/-- LSM_CONSUME of a frame that is not recognized emits the event and reports, and nothing else (R187, R255). -/
theorem exec_lsmConsume_of_unrecognized {s : State} (h : recognized s.operands.frame = false) :
    exec .lsmConsume s = .next
      { s with
        events := (s.emit .unrecognizedErrorFrame).events
        eventDraws := s.eventDraws + 1
        result := some { result := .unrecognizedErrorFrame, outputs := .none } } := by
  change execLsmConsume s = _
  rw [execLsmConsume, State.consume, consumeResult, h]
  rfl

/-! ### The host's own actions -/

theorem step_of_inputs_nil {s : State} (h : s.inputs = []) : step s = .next s := by
  simp only [step, h]

/-- A pending take is performed on the port it names (R263). -/
theorem step_of_take {s : State} {port : OutPort} {rest : List HostInput} (h : s.inputs = .take port :: rest) :
    step s = .next (State.takeFrom { s with inputs := rest } port) := step_of_inputs_cons h

theorem step_of_powerOn {s : State} {rest : List HostInput} (h : s.inputs = .powerOn :: rest) :
    step s = .next (State.powerOn { s with inputs := rest }) := step_of_inputs_cons h

end Sys2Proof.Machine

namespace Sys2Proof.Proofs

open Sys2Proof.Machine Sys2Proof.Safety

/-- Settles O39: what each command offers is known, and it is never more than two events. -/
theorem eventPortKeepsAnOrderedPartOfWhatIsOffered : Obligations.EventPortKeepsAnOrderedPartOfWhatIsOffered := by
  intro i s t h
  obtain ⟨⟨kept, hkept, hevents⟩, hdraws⟩ := Offers.of_exec h
  exact ⟨kept, hkept, hevents, hdraws, length_offeredEvents_le i s⟩

/-- Settles O7: the block waits with nothing pending, a take drops the oldest entry of its port, and power-on writes the reset state
but for the model's own fields. -/
theorem hostActionsBetweenCommands : Obligations.HostActionsBetweenCommands := by
  intro s rest
  refine ⟨step_of_inputs_nil, fun h e es hport => ?events, fun h f fs hport => ?dataOut, fun h e es hport => ?echoOut,
    fun h f fs hport => ?frameOut, fun h => ?powerOn⟩
  case events | dataOut | echoOut | frameOut =>
    simp only [step_of_take h, State.takeFrom, hport, List.drop_one, List.tail_cons]
  case powerOn => exact ⟨_, step_of_powerOn h, rfl, rfl, rfl, rfl, rfl, rfl, rfl, rfl⟩

/-- Settles O27: the hypothesis denies that the frame is recognized, so LSM_CONSUME only emits the event and reports. -/
theorem unrecognizedFrameOnlyReports : Obligations.UnrecognizedFrameOnlyReports := by
  intro s f c hfails
  have hunrecognized : recognized f = false := Bool.eq_false_iff.2 fun h => hfails ((recognized_iff f).1 h)
  exact ⟨_, _, s.emit_events_cases .unrecognizedErrorFrame, exec_lsmConsume_of_unrecognized hunrecognized⟩

end Sys2Proof.Proofs
end

section
/-! PROOF. The statements of spec/70_reset_and_hazards.md: the output ports after reset. -/

namespace Sys2Proof.Machine

/-- Reset is where power-on from reset leads. -/
@[simp] theorem State.powerOn_reset : State.reset.powerOn = State.reset := rfl

end Sys2Proof.Machine

namespace Sys2Proof.Proofs

open Sys2Proof.Machine Sys2Proof.Safety

/-- Settles O45: the state after reset is the one power-on leads to from it, and power-on empties every port (R280). -/
theorem resetPortsAreSound : Obligations.ResetPortsAreSound := by
  have hports : PortsSound State.reset.powerOn := PortsSound.powerOn State.reset
  rwa [State.powerOn_reset] at hports

end Sys2Proof.Proofs
end
